-- ==== Sys2Proof/Word.lean ====
section
/-! DEFINITION. The words of the part: the byte of the link, the 16-bit field, the 32-bit belt position. -/

namespace Sys2Proof

/-- One byte of a frame (section 8.2). -/
abbrev Byte := BitVec 8

/-- A two-byte field of a frame (R181). -/
abbrev Half := BitVec 16

/-- A belt position or a point, counted modulo 4,294,967,296 (section 0.6). -/
abbrev Pos := BitVec 32

end Sys2Proof
end

