-- ==== Sys2Proof/Config.lean ====
section
/-! DEFINITION. What the part number and the manual fix for every TS-1608: capacities, fixed times and limits.
No free value stands here: what the manual leaves open is an order of events (State.order) or an input pin. -/

namespace Sys2Proof.Config

/-- Records the Tracking Table holds (R49, R176). -/
abbrev maxRecords : Nat := 64
/-- Action slots (R90, R176). -/
abbrev maxSlots : Nat := 128
/-- Contributions one action holds at most (R91). -/
abbrev maxContributions : Nat := 4
/-- Notices the notice queue holds (R171). -/
abbrev maxNotices : Nat := 32
/-- Request frames the receive queue holds (R167). -/
abbrev maxRequests : Nat := 2
/-- Intervals the interval history holds (R18). -/
abbrev maxIntervals : Nat := 8
/-- Longest interval captured, in microseconds (R18). -/
abbrev maxInterval : Nat := 1000000
/-- Highest reported speed, in counts per second (R19). -/
abbrev maxSpeed : Nat := 500000
/-- The step generator's modulus (R9). -/
abbrev genModulus : Nat := 1000000
/-- Largest advance, in counts (section 0.7, R102). -/
abbrev maxAdvance : Nat := 65535
/-- Counts that confirm the encoder (R23). -/
abbrev confirmCounts : Nat := 4
/-- Largest tag (R50). -/
abbrev maxTag : Nat := 65535
/-- The RUN filter, in microseconds (R10). -/
abbrev runFilter : Nat := 1000
/-- The rail deglitch time, in microseconds (R151). -/
abbrev deglitch : Nat := 50
/-- The receiver's gap and idle times, in microseconds (R165, R166). -/
abbrev linkSilence : Nat := 3000
/-- The shortest RESETn low level that resets, in microseconds (R2). -/
abbrev pinResetLow : Nat := 10
/-- The largest payload of a frame (section 8.2). -/
abbrev maxPayload : Nat := 200
/-- Half of the position range: the bound of "reached" (R1). -/
abbrev halfRange : Nat := 2147483648

end Sys2Proof.Config
end

