-- ==== Sys2Proof/Syntax.lean ====
section
/-! DEFINITION. The commands of the part: one constructor of `Instr` per row of spec/opcode_table.json. -/

namespace Sys2Proof

/-- The level of a digital pin. -/
inductive Level where
  | low
  | high
  deriving DecidableEq, Repr

/-- The stop bit of a received character as it is sampled (R162). Behind a low one RXD stays low for `heldMicros` µs
more, as through a break (R166). -/
inductive StopBit where
  | high
  | low (heldMicros : Nat)
  deriving DecidableEq, Repr

/-- The bits of a received character behind its data bits (R162). With parity NONE it has no parity bit, and `parityBit`
says nothing. -/
structure CharTail where
  parityBit : Level
  stopBit : StopBit
  deriving DecidableEq, Repr

/-- A frame without its envelope: kind, request tag and payload (section 8.2). -/
structure Frame where
  kind : Byte
  tag : Byte
  payload : List Byte
  deriving DecidableEq, Repr

/-- The twenty requests of Table 8-4. -/
inductive RequestKind where
  | ident | status | clearFaults | setLink | setNotices | reset
  | setLine | setLane | setValve | setHold | setPosition
  | arm | disarm
  | verdict | cancel | queryItem
  | queryValve | testFire | enableValve | disableValve
  deriving DecidableEq, Repr

/-- Every command the outside world can give the part.
A request carries its request tag and its payload bytes as they stand in its frame (chapter 9);
an event of a lane or a valve carries which one. -/
inductive Instr where
  /-- The supply rises (R2). -/
  | powerOnReset
  /-- RESETn is held low for `lowMicros` µs and released (R2). -/
  | pinReset (lowMicros : Nat)
  /-- R176 -/
  | ident (tag : Byte) (payload : List Byte)
  /-- R158 -/
  | status (tag : Byte) (payload : List Byte)
  /-- R156 -/
  | clearFaults (tag : Byte) (payload : List Byte)
  /-- R163 -/
  | setLink (tag : Byte) (payload : List Byte)
  /-- R173 -/
  | setNotices (tag : Byte) (payload : List Byte)
  /-- R177 -/
  | reset (tag : Byte) (payload : List Byte)
  /-- R3 -/
  | setLine (tag : Byte) (payload : List Byte)
  /-- R29 -/
  | setLane (tag : Byte) (payload : List Byte)
  /-- R114 -/
  | setValve (tag : Byte) (payload : List Byte)
  /-- R123 -/
  | setHold (tag : Byte) (payload : List Byte)
  /-- R13 -/
  | setPosition (tag : Byte) (payload : List Byte)
  /-- R144 -/
  | arm (tag : Byte) (payload : List Byte)
  /-- R146 -/
  | disarm (tag : Byte) (payload : List Byte)
  /-- R74 -/
  | verdict (tag : Byte) (payload : List Byte)
  /-- R84 -/
  | cancel (tag : Byte) (payload : List Byte)
  /-- R70 -/
  | queryItem (tag : Byte) (payload : List Byte)
  /-- R141 -/
  | queryValve (tag : Byte) (payload : List Byte)
  /-- R136 -/
  | testFire (tag : Byte) (payload : List Byte)
  /-- R134 -/
  | enableValve (tag : Byte) (payload : List Byte)
  /-- R133 -/
  | disableValve (tag : Byte) (payload : List Byte)
  /-- A frame whose kind is none of the twenty request kinds (R169). -/
  | unknownKind (kind : Byte) (tag : Byte) (payload : List Byte)
  /-- A sample of ENC_A and ENC_B that has moved one step (R7). -/
  | quadratureCount (encA : Level) (encB : Level)
  /-- A sample with ENC_A high after low; ENC_B gives the direction (R8). -/
  | pulseDirCount (encB : Level)
  /-- A sample in which both inputs have changed (R7). -/
  | encPhase (encA : Level) (encB : Level)
  /-- The step generator makes a count in TIMED mode (R27). -/
  | timedStep
  /-- The step generator makes a count in ESTIMATE (R21). -/
  | estimatedStep
  /-- The RUN pin has held `level` for 1 ms (R10). -/
  | runChange (level : Level)
  /-- R16 -/
  | stopTimerExpiry
  /-- R20 -/
  | lossTimerExpiry
  /-- R22, R23 -/
  | limitTimerExpiry
  /-- R24 -/
  | confirmingGap
  /-- R25 -/
  | silenceTimerExpiry
  /-- The EYE pin of a lane is sampled at `level` (R35, R36). -/
  | eyeRawChange (lane : Fin 8) (level : Level)
  /-- R36 -/
  | debounceExpiry (lane : Fin 8)
  /-- R119, R137 -/
  | pullInTimerExpiry (valve : Fin 16)
  /-- R126 -/
  | overtime (valve : Fin 16)
  /-- R137 -/
  | testEnd (valve : Fin 16)
  /-- R121, R123 -/
  | pwmPeriodStart (valve : Fin 16)
  /-- R122 -/
  | pwmOnTimeEnd (valve : Fin 16)
  /-- R152 -/
  | railLowEntry
  /-- R153 -/
  | railNormalEntry
  /-- The character that completes a frame, its parity bit matching and its stop bit high (R162, R165, R167). -/
  | frameComplete (byte : Byte)
  /-- The character at which a frame is found wrong (R165, R166). -/
  | frameError (byte : Byte) (tail : CharTail)
  /-- R165 -/
  | gapTimerExpiry
  /-- R166 -/
  | idleTimerExpiry
  /-- R174, R175 -/
  | transmitStart
  /-- R175 -/
  | transmitEnd
  /-- A character arrives on RXD with its parity bit and its stop bit (R162, R164 to R166). -/
  | characterReceived (byte : Byte) (tail : CharTail)
  /-- A sample with ENC_A low after high (R8). -/
  | fallingEncA (encB : Level)
  deriving DecidableEq, Repr

end Sys2Proof
end

