-- ==== Sys2Proof/Decode.lean ====
section
/-! DEFINITION. The kind codes of the requests (Table 9-2), and the decoder over the opcode table. The table gives
no row any bits ("fields": [] on every row), so no word spells a command. -/

namespace Sys2Proof

/-- The kind codes of Table 9-2. -/
def RequestKind.code : RequestKind → Byte
  | .ident => 0x01 | .status => 0x02 | .clearFaults => 0x03 | .setLink => 0x04
  | .setNotices => 0x05 | .reset => 0x06
  | .setLine => 0x10 | .setLane => 0x11 | .setValve => 0x12 | .setHold => 0x13
  | .setPosition => 0x14
  | .arm => 0x18 | .disarm => 0x19
  | .verdict => 0x20 | .cancel => 0x21 | .queryItem => 0x22
  | .queryValve => 0x28 | .testFire => 0x29 | .enableValve => 0x2A | .disableValve => 0x2B

/-- All twenty requests, in the order of Table 9-2. -/
def RequestKind.all : List RequestKind :=
  [.ident, .status, .clearFaults, .setLink, .setNotices, .reset, .setLine, .setLane, .setValve,
   .setHold, .setPosition, .arm, .disarm, .verdict, .cancel, .queryItem, .queryValve, .testFire,
   .enableValve, .disableValve]

/-- The request a kind code names (R169: every other code is unknown). -/
def RequestKind.ofCode? (c : Byte) : Option RequestKind :=
  RequestKind.all.find? (fun k => k.code == c)

/-- No row of spec/opcode_table.json carries bits, so no word decodes to a command. -/
def decodeTableWord (_nbits _w : Nat) : Option Instr := none

end Sys2Proof
end

