-- ==== Sys2Proof/WellFormed.lean ====
section
/-! DEFINITION. Which commands can stand on the link at all: the checks on a command's fields that come
from the envelope (section 8.2) and from the name of its row. -/

namespace Sys2Proof

/-- The frame that a request command stands for; none for every other command. -/
def Instr.frame? : Instr → Option Frame
  | .ident t p => some ⟨RequestKind.ident.code, t, p⟩
  | .status t p => some ⟨RequestKind.status.code, t, p⟩
  | .clearFaults t p => some ⟨RequestKind.clearFaults.code, t, p⟩
  | .setLink t p => some ⟨RequestKind.setLink.code, t, p⟩
  | .setNotices t p => some ⟨RequestKind.setNotices.code, t, p⟩
  | .reset t p => some ⟨RequestKind.reset.code, t, p⟩
  | .setLine t p => some ⟨RequestKind.setLine.code, t, p⟩
  | .setLane t p => some ⟨RequestKind.setLane.code, t, p⟩
  | .setValve t p => some ⟨RequestKind.setValve.code, t, p⟩
  | .setHold t p => some ⟨RequestKind.setHold.code, t, p⟩
  | .setPosition t p => some ⟨RequestKind.setPosition.code, t, p⟩
  | .arm t p => some ⟨RequestKind.arm.code, t, p⟩
  | .disarm t p => some ⟨RequestKind.disarm.code, t, p⟩
  | .verdict t p => some ⟨RequestKind.verdict.code, t, p⟩
  | .cancel t p => some ⟨RequestKind.cancel.code, t, p⟩
  | .queryItem t p => some ⟨RequestKind.queryItem.code, t, p⟩
  | .queryValve t p => some ⟨RequestKind.queryValve.code, t, p⟩
  | .testFire t p => some ⟨RequestKind.testFire.code, t, p⟩
  | .enableValve t p => some ⟨RequestKind.enableValve.code, t, p⟩
  | .disableValve t p => some ⟨RequestKind.disableValve.code, t, p⟩
  | .unknownKind k t p => some ⟨k, t, p⟩
  | .powerOnReset => none
  | .pinReset _ => none
  | .quadratureCount _ _ => none
  | .pulseDirCount _ => none
  | .encPhase _ _ => none
  | .timedStep => none
  | .estimatedStep => none
  | .runChange _ => none
  | .stopTimerExpiry => none
  | .lossTimerExpiry => none
  | .limitTimerExpiry => none
  | .confirmingGap => none
  | .silenceTimerExpiry => none
  | .eyeRawChange _ _ => none
  | .debounceExpiry _ => none
  | .pullInTimerExpiry _ => none
  | .overtime _ => none
  | .testEnd _ => none
  | .pwmPeriodStart _ => none
  | .pwmOnTimeEnd _ => none
  | .railLowEntry => none
  | .railNormalEntry => none
  | .frameComplete _ => none
  | .frameError _ _ => none
  | .gapTimerExpiry => none
  | .idleTimerExpiry => none
  | .transmitStart => none
  | .transmitEnd => none
  | .characterReceived _ _ => none
  | .fallingEncA _ => none

/-- A frame fits the envelope: a payload of 0 to 200 bytes (section 8.2). -/
def Frame.fits (f : Frame) : Bool := f.payload.length ≤ Config.maxPayload

/-- A command is well formed: its frame fits the envelope, and UNKNOWN_KIND's kind is indeed unknown (R169). -/
def Instr.wellFormed (i : Instr) : Bool :=
  (match i.frame? with
   | some f => f.fits
   | none => true) &&
  (match i with
   | .unknownKind k _ _ => (RequestKind.ofCode? k).isNone
   | _ => true)

end Sys2Proof
end

