-- ==== Sys2Proof/Machine/State.lean ====
section
/-! DEFINITION. Everything the part holds, block by block (Table 0-1), as plain data, and its value right after reset.
Each block has a structure of its own; only that block's rules write it. What the manual says is worked out
from other state (the reported speed, free slots, period offsets, pin levels) is computed, not stored. -/

namespace Sys2Proof.Machine

/-! ### Belt Position Unit (chapter 1) -/

/-- Encoder mode (Table 1-2). -/
inductive EncMode where
  | quadrature | pulseDir | timed
  deriving DecidableEq, Repr

/-- RUN polarity (Table 1-2). -/
inductive Polarity where
  | activeHigh | activeLow
  deriving DecidableEq, Repr

/-- Motion state (1.5). -/
inductive Motion where
  | stopped | forward | reverse
  deriving DecidableEq, Repr

/-- The direction of one count (1.2). -/
inductive Dir where
  | forward | reverse
  deriving DecidableEq, Repr

/-- Where a CONFIRMING began (R22, R25). -/
inductive Origin where
  | estimate | lost
  deriving DecidableEq, Repr

/-- The confirmation of Table 1-1: origin, count 1 to 4, and the µs since the last count (R23, R24). -/
structure Confirmation where
  origin : Origin
  count : Nat
  gap : Nat
  deriving DecidableEq, Repr

/-- The position source with the confirmation that CONFIRMING holds (1.7). -/
inductive Source where
  | encoder | timed | estimate
  | confirming (c : Confirmation)
  | lost
  deriving DecidableEq, Repr

/-- The position source as it is handed to the other blocks (R26). -/
inductive SourceKind where
  | encoder | timed | estimate | confirming | lost
  deriving DecidableEq, Repr

/-- The cause of an entry into LOST (R26). -/
inductive LostCause where
  | loss | runOff | limit | gap
  deriving DecidableEq, Repr

/-- The kind of a position update (R12). -/
inductive UpdateKind where
  | encoder | timed | estimated | set
  deriving DecidableEq, Repr

/-- The eight line parameters (Table 1-2); times in ms, the PWM period in µs. -/
structure LineParams where
  mode : EncMode
  polarity : Polarity
  reversal : Nat
  lossTime : Nat
  stopTime : Nat
  estimateLimit : Nat
  timedSpeed : Nat
  pwmPeriod : Nat
  deriving DecidableEq, Repr

/-- A sampled pair of ENC_A and ENC_B (R7). -/
structure EncPair where
  a : Level
  b : Level
  deriving DecidableEq, Repr

/-- Direction of the last count and its time on the 1 µs base (R18). -/
structure LastCount where
  dir : Dir
  time : Nat
  deriving DecidableEq, Repr

/-- The state of Table 1-1. A timer is `none` while stopped at 0 and `some µs` while it runs. -/
structure Belt where
  par : LineParams
  encRef : Option EncPair
  gen : Option Nat
  runFiltered : Level
  runTimer : Nat
  run : Bool
  position : Pos
  motion : Motion
  acc : Int
  stopTimer : Option Nat
  lossTimer : Option Nat
  limitTimer : Option Nat
  limitExpired : Bool
  silenceTimer : Option Nat
  restart : Bool
  history : List Nat
  last : Option LastCount
  frozen : Nat
  source : Source
  deriving DecidableEq, Repr

/-! ### Targets, as verdicts and defaults carry them (Table 4-1) -/

/-- How the end of an opening is given (R73). -/
inductive TargetEnd where
  | itemEnd (offset : Half)
  | fixed (span : Half)
  deriving DecidableEq, Repr

/-- One target: valve, start offset (two's complement), end (Table 4-1). -/
structure Target where
  valve : Fin 16
  start : Half
  stop : TargetEnd
  deriving DecidableEq, Repr

/-! ### Lane Inputs (chapter 2) -/

/-- Lane parameters (Table 2-2). The default verdict PASS is the empty list. -/
structure LaneParams where
  enabled : Bool
  present : Level
  pullUp : Bool
  debounce : Nat
  minLength : Nat
  maxLength : Nat
  eyeOffset : Nat
  horizonOffset : Nat
  exitOffset : Nat
  valveSet : Half
  default : List Target
  deriving DecidableEq, Repr

/-- A raw change not yet confirmed (R35). -/
structure Candidate where
  level : Level
  captured : Pos
  estimated : Bool
  start : Nat
  debounce : Nat
  deriving DecidableEq, Repr

/-- What an OCCUPIED lane keeps of its item (R41). -/
structure OpenCapture where
  tag : Nat
  leading : Pos
  estimated : Bool
  minLength : Nat
  maxLength : Nat
  exitOffset : Nat
  deriving DecidableEq, Repr

/-- Why a lane is BLOCKED (2.3). -/
inductive BlockedCause where
  | activation | full | length | reversal
  deriving DecidableEq, Repr

/-- Lane state (Table 2-4) with the data each state has. -/
inductive LaneState where
  | off
  | clear
  | occupied (c : OpenCapture)
  | blocked (why : BlockedCause)
  deriving DecidableEq, Repr

/-- State held per lane (Table 2-1). -/
structure Lane where
  cfg : LaneParams
  raw : Level
  confirmed : Level
  candidate : Option Candidate
  state : LaneState
  deriving DecidableEq, Repr

/-- The eight lanes and what the Lane Inputs were last handed (2.0). -/
structure LaneInputs where
  lanes : Vector Lane 8
  position : Pos
  motion : Motion
  source : SourceKind
  deriving DecidableEq, Repr

/-! ### Tracking Table (chapter 3) -/

/-- Outcome of one target (R63). -/
inductive TargetOutcome where
  | pending | active | done | missed | cut | cancelled | notScheduled
  deriving DecidableEq, Repr

/-- One entry of a record's targets list (Table 3-2). -/
structure RecordTarget where
  valve : Fin 16
  openAt : Pos
  closeAt : Pos
  outcome : TargetOutcome
  deriving DecidableEq, Repr

/-- The copy of the lane configuration in a record (R41). -/
structure Snapshot where
  eyeOffset : Nat
  valveSet : Half
  default : List Target
  deriving DecidableEq, Repr

/-- What closing gives a record (R53). -/
structure Closing where
  trailing : Pos
  length : Nat
  exitAt : Pos
  deriving DecidableEq, Repr

/-- The decision of a DECIDED record (Table 3-2). -/
inductive Decision where
  | verdict | cancel
  deriving DecidableEq, Repr

/-- Record state with the fields present in it (Table 3-3). -/
inductive Progress where
  | entering
  | awaiting (c : Closing)
  | decided (c : Closing) (how : Decision) (targets : List RecordTarget)
  | defaulted (c : Closing) (targets : List RecordTarget)
  deriving DecidableEq, Repr

/-- One item record (Table 3-2). -/
structure ItemRecord where
  tag : Nat
  lane : Fin 8
  leading : Pos
  estimated : Bool
  blocked : Bool
  horizon : Pos
  snapshot : Snapshot
  progress : Progress
  deriving DecidableEq, Repr

/-- The state of Table 3-1. -/
structure Table where
  records : List ItemRecord
  nextTag : Nat
  position : Pos
  motion : Motion
  deriving DecidableEq, Repr

/-! ### Action Schedule (chapter 5) -/

/-- A contribution in a queue is PENDING or ACTIVE (R92). -/
inductive ContribPhase where
  | pending | active
  deriving DecidableEq, Repr

/-- The part of an action that serves one target of one item (R92). -/
structure Contribution where
  tag : Nat
  index : Nat
  openAt : Pos
  closeAt : Pos
  phase : ContribPhase
  deriving DecidableEq, Repr

/-- Action state (Table 5-2). -/
inductive ActionState where
  | queued | opened
  deriving DecidableEq, Repr

/-- One action (R91). Its valve is that of the queue it stands in. -/
structure Action where
  state : ActionState
  openAt : Pos
  closeAt : Pos
  contribs : List Contribution
  deriving DecidableEq, Repr

/-- The advances of one valve (R102). -/
structure Advance where
  openBy : Nat
  closeBy : Nat
  deriving DecidableEq, Repr

/-- The state of Table 5-1. The slots in use are the actions in all queues (R90). -/
structure Schedule where
  queues : Vector (List Action) 16
  advances : Vector Advance 16
  position : Pos
  motion : Motion
  speed : Nat
  deriving DecidableEq, Repr

/-! ### Valve Drive (chapter 6) and Rail Monitor (7.2) -/

/-- Output mode (Table 6-2). -/
inductive OutputMode where
  | off | activeHigh | activeLow
  deriving DecidableEq, Repr

/-- Valve parameters (Table 6-2): latencies and pull-in in µs, max open time in ms, duty in sixty-fourths. -/
structure ValveParams where
  mode : OutputMode
  nozzleOffset : Nat
  openLatency : Nat
  closeLatency : Nat
  pullIn : Nat
  holdDuty : Nat
  minGap : Nat
  maxOpen : Nat
  deriving DecidableEq, Repr

/-- Phase of a test fire (R137). -/
inductive TestPhase where
  | pull | hold
  deriving DecidableEq, Repr

/-- Valve state (Table 6-4), a test with its phase and duration in ms. -/
inductive ValveState where
  | idle | pullIn | hold
  | test (phase : TestPhase) (duration : Nat)
  | disabled
  deriving DecidableEq, Repr

/-- State held per valve (Table 6-1). `out` says whether the output is on (R117). -/
structure Valve where
  cfg : ValveParams
  state : ValveState
  active : Nat
  pull : Nat
  duty : Nat
  pendingDuty : Nat
  out : Bool
  deriving DecidableEq, Repr

/-- Rail state (7.2). -/
inductive RailState where
  | normal | low
  deriving DecidableEq, Repr

/-- The sixteen valves, the common PWM base and period (R121), and what the Valve Drive was last handed. -/
structure Drive where
  valves : Vector Valve 16
  period : Nat
  base : Nat
  motion : Motion
  rail : RailState
  deriving DecidableEq, Repr

/-- The Rail Monitor: rail state and deglitch timer (R151). -/
structure Rail where
  state : RailState
  timer : Nat
  deriving DecidableEq, Repr

/-! ### Line Controller (chapter 7) -/

/-- Why the line halted (R148). -/
inductive HaltCause where
  | limit | loss | gap | silence
  deriving DecidableEq, Repr

/-- Line state with the halt cause of HALTED (Table 7-1). -/
inductive LineState where
  | config | armed
  | halted (why : HaltCause)
  deriving DecidableEq, Repr

/-- The eleven fault flags (Table 7-6). -/
inductive FaultFlag where
  | encLost | encPhase | trackHalt | railLow | valveOvertime | tableFull | schedFull | eyeBlocked
  | linkError | linkOverrun | noticeDrop
  deriving DecidableEq, Repr

/-- One flag with its reported mark (R154). -/
structure FlagState where
  set : Bool
  reported : Bool
  deriving DecidableEq, Repr

/-- The kind of the last reset (R161). -/
inductive ResetCause where
  | powerOn | pin | request
  deriving DecidableEq, Repr

/-- The state of Table 7-1 that the Line Controller holds. -/
structure LineControl where
  line : LineState
  motion : Motion
  flags : Vector FlagState 11
  resetCause : ResetCause
  deriving DecidableEq, Repr

/-! ### Link Port (chapter 8) -/

/-- Parity (Table 8-2). -/
inductive Parity where
  | none | even | odd
  deriving DecidableEq, Repr

/-- The seven baud rates (Table 8-2). -/
inductive Baud where
  | b9600 | b19200 | b57600 | b115200 | b230400 | b460800 | b921600
  deriving DecidableEq, Repr

/-- Link settings (Table 8-2). -/
structure LinkSettings where
  baud : Baud
  parity : Parity
  deriving DecidableEq, Repr

/-- Receiver state (Table 8-3). RECEIVE holds the bytes after the start mark and the gap timer, QUIET the idle timer. -/
inductive Receiver where
  | hunt
  | receive (got : List Byte) (gap : Nat)
  | quiet (idle : Nat)
  deriving DecidableEq, Repr

/-- What follows the last stop bit of a frame (R163, R177). -/
inductive AfterFrame where
  | nothing
  | settings (l : LinkSettings)
  | reset
  deriving DecidableEq, Repr

/-- A reply waiting in the reply slot (R168, R163). -/
structure Reply where
  frame : Frame
  after : AfterFrame
  deriving DecidableEq, Repr

/-- Why an ENTERING record was removed (R55). -/
inductive DiscardReason where
  | short | abandoned | laneOff
  deriving DecidableEq, Repr

/-- The decision an ITEM_RETIRED notice reports (R69). -/
inductive FinalDecision where
  | verdict | default | cancel
  deriving DecidableEq, Repr

/-- The notices with the fields their rules give them (Table 8-6). -/
inductive Notice where
  | itemEntered (tag : Nat) (lane : Fin 8) (leading trailing : Pos) (length : Nat)
      (estimated blocked : Bool) (horizon exitAt : Pos)
  | itemDiscarded (lane : Fin 8) (tag : Nat) (reason : DiscardReason)
  | itemDefaulted (tag : Nat) (eject : Bool) (admitted : Bool)
  | itemRetired (tag : Nat) (lane : Fin 8) (decision : FinalDecision) (estimated : Bool)
      (pairs : List (Fin 16 × TargetOutcome))
  | valveOvertime (valve : Fin 16) (cut missed : Nat)
  | restart (cause : ResetCause)
  | lineState (line : LineState) (records actions : Nat)
  | source (source : SourceKind) (cause : Option LostCause)
  | rail (state : RailState)
  | motion (state : Motion) (position : Pos)
  | fault (flag : FaultFlag)
  deriving DecidableEq, Repr

/-- The transmitter: free, or sending the bytes of one frame for `elapsed` µs (R175). -/
inductive Transmitter where
  | free
  | sending (bytes : List Byte) (after : AfterFrame) (elapsed : Nat)
  deriving DecidableEq, Repr

/-- The state of Table 8-1. Bit k of the mask enables the notice kind at mask position k (Table 9-3). -/
structure Link where
  settings : LinkSettings
  rx : Receiver
  queue : List Frame
  hold : Bool
  slot : Option Reply
  notices : List Notice
  mask : Byte
  tx : Transmitter
  deriving DecidableEq, Repr

/-! ### Pins (0.5) -/

/-- An EYE pin: the level a sensor drives, if one does, and the level the pin takes undriven with the pull-up off. -/
structure EyePin where
  drive : Option Level
  float : Level
  deriving DecidableEq, Repr

/-- VSNS against the thresholds 1.50 V and 1.62 V (R151). -/
inductive Vsns where
  | below | between | above
  deriving DecidableEq, Repr

/-- RXD: idle high, a character in progress, or held low for `left` µs more (R165, R166). -/
inductive RxLine where
  | idle | busy
  | low (left : Nat)
  deriving DecidableEq, Repr

/-- The input pins. The outside world sets them. -/
structure Pins where
  enc : EncPair
  run : Level
  eyes : Vector EyePin 8
  vsns : Vsns
  rxd : RxLine
  deriving DecidableEq, Repr

/-! ### The whole part -/

/-- No command of the part stops the machine, so there is no fault. -/
inductive Fault : Type
  deriving DecidableEq, Repr

/-- The refusals. -/
inductive Refusal where
  /-- Raised by `exec` alone, for a row that has no meaning yet; safe. No row is in that case. -/
  | notModelled (mnemonic : String)
  deriving DecidableEq, Repr

/-- Everything the part holds, its input pins, and three fields of the model's own:
`now` (the time base, in µs), `order` (who goes first where the manual says either may) and `pending`
(the commands waiting, first in, first out). -/
structure State where
  belt : Belt
  lanes : LaneInputs
  table : Table
  sched : Schedule
  drive : Drive
  rail : Rail
  ctrl : LineControl
  link : Link
  pins : Pins
  now : Nat
  order : List Nat
  pending : List Instr
  deriving DecidableEq, Repr

/-! ### Reset values -/

/-- Table 1-2, reset column. -/
def LineParams.reset : LineParams :=
  { mode := .quadrature, polarity := .activeHigh, reversal := 8, lossTime := 50, stopTime := 100,
    estimateLimit := 500, timedSpeed := 1000, pwmPeriod := 50 }

/-- Table 1-6. -/
def Belt.reset : Belt :=
  { par := .reset, encRef := none, gen := none, runFiltered := .low, runTimer := 0, run := false,
    position := 0, motion := .stopped, acc := 0, stopTimer := none, lossTimer := none,
    limitTimer := none, limitExpired := false, silenceTimer := none, restart := false,
    history := [], last := none, frozen := 0, source := .encoder }

/-- Table 2-2, reset column. -/
def LaneParams.reset : LaneParams :=
  { enabled := false, present := .low, pullUp := true, debounce := 500, minLength := 4,
    maxLength := 4000, eyeOffset := 0, horizonOffset := 8000, exitOffset := 20000, valveSet := 0,
    default := [] }

/-- R33: disabled, OFF, no candidate; the filter starts from the level of the pin (log 7). -/
def Lane.reset (pin : Level) : Lane :=
  { cfg := .reset, raw := pin, confirmed := pin, candidate := none, state := .off }

/-- The level of an EYE pin: what the sensor drives, else HIGH by the pull-up, else what the pin floats to (R30, R33). -/
def EyePin.level (p : EyePin) (pullUp : Bool) : Level :=
  match p.drive with
  | some l => l
  | none => if pullUp then .high else p.float

/-- R33, for the pins as they stand at the reset. -/
def LaneInputs.reset (eyes : Vector EyePin 8) : LaneInputs :=
  { lanes := #v[.reset (eyes[0].level true), .reset (eyes[1].level true), .reset (eyes[2].level true),
      .reset (eyes[3].level true), .reset (eyes[4].level true), .reset (eyes[5].level true),
      .reset (eyes[6].level true), .reset (eyes[7].level true)],
    position := 0, motion := .stopped, source := .encoder }

/-- R51. -/
def Table.reset : Table := { records := [], nextTag := 1, position := 0, motion := .stopped }

/-- R90, R102. -/
def Schedule.reset : Schedule :=
  { queues := Vector.replicate 16 [], advances := Vector.replicate 16 ⟨0, 0⟩, position := 0,
    motion := .stopped, speed := 0 }

/-- Table 6-2, reset column. -/
def ValveParams.reset : ValveParams :=
  { mode := .off, nozzleOffset := 0, openLatency := 0, closeLatency := 0, pullIn := 2000,
    holdDuty := 24, minGap := 0, maxOpen := 200 }

/-- R116. -/
def Valve.reset : Valve :=
  { cfg := .reset, state := .idle, active := 0, pull := 0, duty := 24, pendingDuty := 24, out := false }

/-- R116. -/
def Drive.reset : Drive :=
  { valves := Vector.replicate 16 .reset, period := 50, base := 0, motion := .stopped, rail := .low }

/-- R151. -/
def Rail.reset : Rail := { state := .low, timer := 0 }

/-- R143, R154, R161. -/
def LineControl.reset (cause : ResetCause) : LineControl :=
  { line := .config, motion := .stopped, flags := Vector.replicate 11 ⟨false, false⟩, resetCause := cause }

/-- Table 8-2, reset column. -/
def LinkSettings.reset : LinkSettings := { baud := .b115200, parity := .even }

/-- Table 8-7: only the RESTART notice is queued, and every notice kind is enabled. -/
def Link.reset (settings : LinkSettings) (cause : ResetCause) : Link :=
  { settings := settings, rx := .quiet 0, queue := [], hold := false, slot := none,
    notices := [.restart cause], mask := 0xFF, tx := .free }

/-- The input pins before the outside world has set them (log 6). -/
def Pins.reset : Pins :=
  { enc := ⟨.low, .low⟩, run := .low, eyes := Vector.replicate 8 ⟨none, .high⟩, vsns := .below,
    rxd := .idle }

/-- The part right after a power-on reset (R2, Tables 1-6 and 8-7), with no command waiting. -/
def State.reset : State :=
  { belt := .reset, lanes := .reset Pins.reset.eyes, table := .reset, sched := .reset,
    drive := .reset, rail := .reset, ctrl := .reset .powerOn, link := .reset .reset .powerOn,
    pins := .reset, now := 0, order := [], pending := [] }

end Sys2Proof.Machine
end

