-- ==== Sys2Proof/Machine/Operands.lean ====
section
/-! DEFINITION. Every byte layout of chapter 9: reading the fields of a request payload, the codes of Table 9-5,
the sets of Table 9-6, the envelope with its CRC, and the payloads of notices. -/

namespace Sys2Proof.Machine

/-! ### Numeric fields, high byte first (R181) -/

/-- The byte at an offset of a payload. -/
def byteAt (p : List Byte) (i : Nat) : Byte := p.getD i 0

/-- A one-byte field. -/
def num8 (p : List Byte) (i : Nat) : Nat := (byteAt p i).toNat

/-- A two-byte field as bits. -/
def half (p : List Byte) (i : Nat) : Half := byteAt p i ++ byteAt p (i + 1)

/-- A two-byte numeric field. -/
def num16 (p : List Byte) (i : Nat) : Nat := (half p i).toNat

/-- A four-byte field as bits. -/
def word (p : List Byte) (i : Nat) : Pos := half p i ++ half p (i + 2)

/-- A four-byte numeric field. -/
def num32 (p : List Byte) (i : Nat) : Nat := (word p i).toNat

/-- One byte sent. -/
def put8 (n : Nat) : List Byte := [BitVec.ofNat 8 n]

/-- A two-byte field sent, high byte first. -/
def putHalf (h : Half) : List Byte := [h.extractLsb' 8 8, h.extractLsb' 0 8]

/-- A two-byte number sent. -/
def put16 (n : Nat) : List Byte := putHalf (BitVec.ofNat 16 n)

/-- A four-byte field sent, high byte first. -/
def putWord (w : Pos) : List Byte :=
  [w.extractLsb' 24 8, w.extractLsb' 16 8, w.extractLsb' 8 8, w.extractLsb' 0 8]

/-- A four-byte number sent. -/
def put32 (n : Nat) : List Byte := putWord (BitVec.ofNat 32 n)

/-- A yes/no field sent. -/
def putBool (b : Bool) : List Byte := [if b then 1 else 0]

/-- A list place beyond the count sent is 0 in every byte (R182, R183). -/
def padTo (n : Nat) (p : List Byte) : List Byte := p ++ List.replicate (n - p.length) 0

/-! ### The envelope (section 8.2, R180) -/

/-- The start mark (Table 9-1). -/
def startMark : Byte := 0xA5

/-- One bit step of the CRC register, polynomial 0x1021 (R180). -/
def crcBit (r : Half) : Half := if r.msb then (r <<< 1) ^^^ 0x1021 else r <<< 1

/-- One byte into the CRC register, most significant bit first (R180). -/
def crcByte (r : Half) (b : Byte) : Half :=
  crcBit <| crcBit <| crcBit <| crcBit <| crcBit <| crcBit <| crcBit <| crcBit (r ^^^ (b ++ (0 : Byte)))

/-- CRC-16, initial value 0xFFFF, neither reflected nor inverted (R180). -/
def crc16 (bytes : List Byte) : Half := bytes.foldl crcByte 0xFFFF

end Sys2Proof.Machine

namespace Sys2Proof

open Machine

/-- The bytes the check value covers: length, kind, request tag and payload (R180). -/
def Frame.covered (f : Frame) : List Byte :=
  BitVec.ofNat 8 (2 + f.payload.length) :: f.kind :: f.tag :: f.payload

/-- A whole frame as it stands on the line (Table 9-1). -/
def Frame.bytes (f : Frame) : List Byte :=
  startMark :: (f.covered ++ putHalf (crc16 f.covered))

/-- The payload size of each request (Table 9-2). -/
def RequestKind.size : RequestKind → Nat
  | .ident => 0 | .status => 0 | .clearFaults => 2 | .setLink => 2 | .setNotices => 1 | .reset => 0
  | .setLine => 15 | .setLane => 49 | .setValve => 17 | .setHold => 2 | .setPosition => 4
  | .arm => 0 | .disarm => 0 | .verdict => 27 | .cancel => 2 | .queryItem => 2
  | .queryValve => 1 | .testFire => 3 | .enableValve => 1 | .disableValve => 1

end Sys2Proof

namespace Sys2Proof.Machine

/-! ### Enumerated fields (Table 9-5) -/

/-- Encoder mode, read. -/
def EncMode.ofCode? : Nat → Option EncMode
  | 1 => some .quadrature | 2 => some .pulseDir | 3 => some .timed | _ => none

/-- RUN polarity, read. -/
def Polarity.ofCode? : Nat → Option Polarity
  | 1 => some .activeHigh | 2 => some .activeLow | _ => none

/-- Output mode, read. -/
def OutputMode.ofCode? : Nat → Option OutputMode
  | 1 => some .off | 2 => some .activeHigh | 3 => some .activeLow | _ => none

/-- Present level, read. -/
def levelOfCode? : Nat → Option Level
  | 0 => some .low | 1 => some .high | _ => none

/-- Enabled and pull-up, read. -/
def boolOfCode? : Nat → Option Bool
  | 0 => some false | 1 => some true | _ => none

/-- Baud rate, read. -/
def Baud.ofCode? : Nat → Option Baud
  | 1 => some .b9600 | 2 => some .b19200 | 3 => some .b57600 | 4 => some .b115200
  | 5 => some .b230400 | 6 => some .b460800 | 7 => some .b921600 | _ => none

/-- Parity, read. -/
def Parity.ofCode? : Nat → Option Parity
  | 1 => some .none | 2 => some .even | 3 => some .odd | _ => Option.none

/-- Bits per second of a baud rate (Table 8-2). -/
def Baud.rate : Baud → Nat
  | .b9600 => 9600 | .b19200 => 19200 | .b57600 => 57600 | .b115200 => 115200
  | .b230400 => 230400 | .b460800 => 460800 | .b921600 => 921600

/-- Bits of one character: start, eight data, parity if there is one, stop (R162). -/
def Parity.charBits : Parity → Nat
  | .none => 10 | .even => 11 | .odd => 11

/-- The level that stands for a bit. -/
def bitLevel (b : Bool) : Level := if b then .high else .low

/-- High bits among the eight data bits (R162). -/
def highBits (b : Byte) : Nat := (List.range 8).countP (fun i => b.getLsbD i)

/-- The parity bit of a byte: it makes the number of high bits, its own among them, even or odd; absent with NONE
(R162). -/
def Parity.bit (p : Parity) (b : Byte) : Option Level :=
  match p with
  | .none => Option.none
  | .even => some (bitLevel (highBits b % 2 == 1))
  | .odd => some (bitLevel (highBits b % 2 == 0))

/-- A parity bit that matches a byte; with NONE there is none, and every level matches (R162). -/
def Parity.levelFor (p : Parity) (b : Byte) : Level := (p.bit b).getD .low

/-- The bits of one character as they stand on the line: start bit low, data least significant bit first, the parity bit
if there is one, stop bit high (R162). -/
def Parity.character (p : Parity) (b : Byte) : List Level :=
  .low :: (List.range 8).map (fun i => bitLevel (b.getLsbD i)) ++ (p.bit b).toList ++ [.high]

/-- A valve number from 0 to 15. -/
def valveOf? (n : Nat) : Option (Fin 16) := if h : n < 16 then some ⟨n, h⟩ else none

/-- A lane number from 0 to 7. -/
def laneOf? (n : Nat) : Option (Fin 8) := if h : n < 8 then some ⟨n, h⟩ else none

/-- Output mode, sent. -/
def OutputMode.code : OutputMode → Nat
  | .off => 1 | .activeHigh => 2 | .activeLow => 3

/-- Line state, sent. -/
def LineState.code : LineState → Nat
  | .config => 1 | .armed => 2 | .halted _ => 3

/-- Position source, sent. -/
def SourceKind.code : SourceKind → Nat
  | .encoder => 1 | .timed => 2 | .estimate => 3 | .confirming => 4 | .lost => 5

/-- Cause of LOST, sent; shared with the halt cause (R184). -/
def LostCause.code : LostCause → Nat
  | .loss => 1 | .runOff => 2 | .limit => 3 | .gap => 4

/-- Halt cause, sent. -/
def HaltCause.code : HaltCause → Nat
  | .loss => 1 | .limit => 3 | .gap => 4 | .silence => 5

/-- Motion state, sent. -/
def Motion.code : Motion → Nat
  | .stopped => 1 | .forward => 2 | .reverse => 3

/-- Rail state, sent. -/
def RailState.code : RailState → Nat
  | .normal => 1 | .low => 2

/-- Record state, sent. -/
def Progress.code : Progress → Nat
  | .entering => 1 | .awaiting _ => 2 | .decided _ _ _ => 3 | .defaulted _ _ => 4

/-- Decision of a record, sent; 0 while absent. -/
def Progress.decisionCode : Progress → Nat
  | .entering => 0 | .awaiting _ => 0 | .decided _ .verdict _ => 1 | .decided _ .cancel _ => 3
  | .defaulted _ _ => 2

/-- Decision of a retired record, sent. -/
def FinalDecision.code : FinalDecision → Nat
  | .verdict => 1 | .default => 2 | .cancel => 3

/-- Outcome, sent. -/
def TargetOutcome.code : TargetOutcome → Nat
  | .pending => 1 | .active => 2 | .done => 3 | .missed => 4 | .cut => 5 | .cancelled => 6
  | .notScheduled => 7

/-- The outcome a contribution's phase stands for. -/
def ContribPhase.outcome : ContribPhase → TargetOutcome
  | .pending => .pending | .active => .active

/-- Valve state, sent. -/
def ValveState.code : ValveState → Nat
  | .idle => 1 | .pullIn => 2 | .hold => 3 | .test _ _ => 4 | .disabled => 5

/-- Test phase, sent; 0 outside TEST. -/
def ValveState.phaseCode : ValveState → Nat
  | .test .pull _ => 1 | .test .hold _ => 2 | .idle => 0 | .pullIn => 0 | .hold => 0 | .disabled => 0

/-- Test duration, sent; 0 outside TEST. -/
def ValveState.testDuration : ValveState → Nat
  | .test _ d => d | .idle => 0 | .pullIn => 0 | .hold => 0 | .disabled => 0

/-- Action state, sent. -/
def ActionState.code : ActionState → Nat
  | .queued => 1 | .opened => 2

/-- Discard reason, sent. -/
def DiscardReason.code : DiscardReason → Nat
  | .short => 1 | .abandoned => 2 | .laneOff => 3

/-- Default kind, sent: PASS or EJECT. -/
def defaultKindCode (eject : Bool) : Nat := if eject then 2 else 1

/-- Reset cause, sent. -/
def ResetCause.code : ResetCause → Nat
  | .powerOn => 1 | .pin => 2 | .request => 3

/-- Flag number: the bit position of the flag (Table 9-6). -/
def FaultFlag.number : FaultFlag → Fin 11
  | .encLost => 0 | .encPhase => 1 | .trackHalt => 2 | .railLow => 3 | .valveOvertime => 4
  | .tableFull => 5 | .schedFull => 6 | .eyeBlocked => 7 | .linkError => 8 | .linkOverrun => 9
  | .noticeDrop => 10

/-- The eleven flags in the order of Table 9-6. -/
def FaultFlag.all : List FaultFlag :=
  [.encLost, .encPhase, .trackHalt, .railLow, .valveOvertime, .tableFull, .schedFull, .eyeBlocked,
   .linkError, .linkOverrun, .noticeDrop]

/-- The eight lanes in number order. -/
def allLanes : List (Fin 8) := [0, 1, 2, 3, 4, 5, 6, 7]

/-- The sixteen valves in number order. -/
def allValves : List (Fin 16) := [0, 1, 2, 3, 4, 5, 6, 7, 8, 9, 10, 11, 12, 13, 14, 15]

/-- A set sent as two bytes, member k at bit k (Table 9-6). -/
def setBits (members : List Nat) : Half := members.foldl (fun b k => b ||| ((1 : Half) <<< k)) 0

/-- The item marks byte (Table 9-6). -/
def itemMarks (estimated blocked : Bool) : Nat := (if estimated then 1 else 0) + (if blocked then 2 else 0)

/-! ### Result codes (Table 9-4) -/

/-- The result codes of Table 8-5. -/
inductive Result where
  | ok | unknownKind | badLength | badValue | state | busy | unknownItem | late | noRoom | conflict
  | valveDisabled
  deriving DecidableEq, Repr

/-- Table 9-4. -/
def Result.code : Result → Nat
  | .ok => 0 | .unknownKind => 1 | .badLength => 2 | .badValue => 3 | .state => 4 | .busy => 5
  | .unknownItem => 6 | .late => 7 | .noRoom => 8 | .conflict => 9 | .valveDisabled => 10

/-! ### Request payloads (section 9.4) -/

/-- A target place as its fields stand in the frame (Table 9-10). -/
structure TargetPlace where
  valve : Nat
  start : Half
  endMode : Nat
  endValue : Half
  deriving DecidableEq, Repr

/-- The target place at an offset (Table 9-10). -/
def targetPlaceAt (p : List Byte) (i : Nat) : TargetPlace :=
  { valve := num8 p i, start := half p (i + 1), endMode := num8 p (i + 3), endValue := half p (i + 4) }

/-- The used places of a target list that starts at an offset (R71, R181). -/
def targetPlaces (p : List Byte) (offset count : Nat) : List TargetPlace :=
  (List.range count).map (fun k => targetPlaceAt p (offset + 6 * k))

/-- The end of a target: end mode 1 ITEM_END, 2 FIXED with a span of at least 1 (R76, Table 9-5). -/
def targetEnd? (mode : Nat) (value : Half) : Option TargetEnd :=
  match mode with
  | 1 => some (.itemEnd value)
  | 2 => if value = 0 then none else some (.fixed value)
  | _ => none

/-- A target place whose fields are all in range (R76). -/
def TargetPlace.target? (t : TargetPlace) : Option Target :=
  match valveOf? t.valve, targetEnd? t.endMode t.endValue with
  | some v, some e => some ⟨v, t.start, e⟩
  | _, _ => none

/-- SET_LINE (Table 9-8) with the ranges of Table 1-2; none if a field is out of range (R3). -/
def parseLine (p : List Byte) : Option LineParams :=
  match EncMode.ofCode? (num8 p 0), Polarity.ofCode? (num8 p 1) with
  | some mode, some pol =>
    if 1 ≤ num8 p 2 ∧ 1 ≤ num16 p 3 ∧ num16 p 3 ≤ 1000 ∧ 1 ≤ num16 p 5 ∧ num16 p 5 ≤ 1000 ∧
        10 ≤ num16 p 7 ∧ num16 p 7 ≤ 5000 ∧ 1 ≤ num32 p 9 ∧ num32 p 9 ≤ 200000 ∧
        20 ≤ num16 p 13 ∧ num16 p 13 ≤ 1000 then
      some { mode := mode, polarity := pol, reversal := num8 p 2, lossTime := num16 p 3,
             stopTime := num16 p 5, estimateLimit := num16 p 7, timedSpeed := num32 p 9,
             pwmPeriod := num16 p 13 }
    else none
  | _, _ => none

/-- The default of SET_LANE: count 0 is PASS, 1 to 4 targets, 5 or more out of range (R181); each target in range and
in the valve set of the request (R29 steps 5 and 6). -/
def parseDefault (p : List Byte) (valveSet : Half) : Option (List Target) :=
  if num8 p 24 ≤ 4 then
    ((targetPlaces p 25 (num8 p 24)).mapM TargetPlace.target?).bind (fun ts =>
      if ts.all (fun t => valveSet.getLsbD t.valve.val) then some ts else none)
  else none

/-- SET_LANE (Table 9-11) with the checks of R29; none if any step fails. -/
def parseLane (p : List Byte) : Option (Fin 8 × LaneParams) :=
  match laneOf? (num8 p 0), boolOfCode? (num8 p 1), levelOfCode? (num8 p 2), boolOfCode? (num8 p 3),
      parseDefault p (half p 22) with
  | some lane, some enabled, some present, some pullUp, some dflt =>
    if num16 p 4 ≤ 10000 ∧ 1 ≤ num16 p 6 ∧ 1 ≤ num16 p 8 ∧ num32 p 10 ≤ 1048575 ∧
        num32 p 14 ≤ 1048575 ∧ 1 ≤ num32 p 18 ∧ num32 p 18 ≤ 1048575 ∧
        num16 p 6 ≤ num16 p 8 ∧ num16 p 8 + 1 ≤ num32 p 14 then
      some (lane, { enabled := enabled, present := present, pullUp := pullUp, debounce := num16 p 4,
                    minLength := num16 p 6, maxLength := num16 p 8, eyeOffset := num32 p 10,
                    horizonOffset := num32 p 14, exitOffset := num32 p 18, valveSet := half p 22,
                    default := dflt })
    else none
  | _, _, _, _, _ => none

/-- SET_VALVE's parameters (Table 9-9) with the ranges of Table 6-2; none if one is out of range (R114 step 3). -/
def parseValve (p : List Byte) : Option ValveParams :=
  match OutputMode.ofCode? (num8 p 1) with
  | some mode =>
    if num32 p 2 ≤ 1048575 ∧ num16 p 6 ≤ 50000 ∧ num16 p 8 ≤ 50000 ∧ num16 p 10 ≤ 50000 ∧
        num8 p 12 ≤ 64 ∧ 1 ≤ num16 p 15 ∧ num16 p 15 ≤ 2000 then
      some { mode := mode, nozzleOffset := num32 p 2, openLatency := num16 p 6,
             closeLatency := num16 p 8, pullIn := num16 p 10, holdDuty := num8 p 12,
             minGap := num16 p 13, maxOpen := num16 p 15 }
    else none
  | none => none

/-- SET_LINK (Table 9-7); none if a code is not listed (R163). -/
def parseLink (p : List Byte) : Option LinkSettings :=
  match Baud.ofCode? (num8 p 0), Parity.ofCode? (num8 p 1) with
  | some b, some q => some ⟨b, q⟩
  | _, _ => none

/-! ### Notices (section 9.6) -/

/-- The mask position of a notice kind (Table 9-3); its kind code is 0x40 plus the position. -/
def Notice.position : Notice → Nat
  | .itemEntered .. => 0 | .itemDiscarded .. => 1 | .itemDefaulted .. => 2 | .itemRetired .. => 3
  | .valveOvertime .. => 4
  | .restart _ => 5 | .lineState .. => 5 | .source .. => 5 | .rail _ => 5
  | .motion .. => 6 | .fault _ => 7

/-- The kind code of a notice (Table 9-3). -/
def Notice.kind (n : Notice) : Byte := 0x40 + BitVec.ofNat 8 n.position

/-- The halt cause that a LINE_EVENT LINE_STATE carries (R184). -/
def LineState.causeCode : LineState → Nat
  | .config => 0 | .armed => 0 | .halted c => c.code

/-- The LINE_EVENT layout (Table 9-21). -/
def lineEvent (reason value cause records actions : Nat) : List Byte :=
  put8 reason ++ put8 value ++ put8 cause ++ put8 records ++ put8 actions

/-- The payload of a notice (Tables 9-20 and 9-21, R184). -/
def Notice.payload : Notice → List Byte
  | .itemEntered tag lane leading trailing length est blk horizon exitAt =>
    put16 tag ++ put8 lane.val ++ putWord leading ++ putWord trailing ++ put16 length ++
      put8 (itemMarks est blk) ++ putWord horizon ++ putWord exitAt
  | .itemDiscarded lane tag reason => put8 lane.val ++ put16 tag ++ put8 reason.code
  | .itemDefaulted tag eject admitted => put16 tag ++ put8 (defaultKindCode eject) ++ putBool admitted
  | .itemRetired tag lane decision est pairs =>
    padTo 14 (put16 tag ++ put8 lane.val ++ put8 decision.code ++ putBool est ++ put8 pairs.length ++
      pairs.flatMap (fun q => put8 q.1.val ++ put8 q.2.code))
  | .valveOvertime valve cut missed => put8 valve.val ++ put8 1 ++ put8 cut ++ put16 missed
  | .restart cause => lineEvent 1 cause.code 0 0 0
  | .lineState line records actions => lineEvent 2 line.code line.causeCode records actions
  | .source src cause => lineEvent 3 src.code ((cause.map LostCause.code).getD 0) 0 0
  | .rail st => lineEvent 4 st.code 0 0 0
  | .motion m position => put8 m.code ++ putWord position
  | .fault flag => put8 flag.number.val

/-- The frame of a notice: request tag 0 (R170, R183). -/
def Notice.frame (n : Notice) : Frame := ⟨n.kind, 0, n.payload⟩

end Sys2Proof.Machine
end

