-- ==== Sys2Proof/Machine/Ops.lean ====
section
/-! DEFINITION. The operations the chapters share: points and advances (0.6, 0.7), who goes first, and reading and
writing one lane, one valve, one queue, one record. -/

namespace Sys2Proof.Machine

/-! ### Points (section 0.6, R1) -/

/-- A point is reached at a position (R1). -/
def reached (position point : Pos) : Bool := (position - point).toNat < Config.halfRange

/-- `q` comes after `p` (section 0.6). -/
def comesAfter (q p : Pos) : Bool := 1 ≤ (q - p).toNat && (q - p).toNat < Config.halfRange

/-- `p` is at or before `q` (R93). -/
def atOrBefore (p q : Pos) : Bool := (q - p).toNat < Config.halfRange

/-- The later of two points. -/
def laterOf (p q : Pos) : Pos := if comesAfter q p then q else p

/-- The earlier of two points. -/
def earlierOf (p q : Pos) : Pos := if comesAfter p q then q else p

/-- An offset added to a point, modulo 4,294,967,296 (section 0.6). -/
def addOffset (p : Pos) (n : Nat) : Pos := p + BitVec.ofNat 32 n

/-- An advance taken from a point (R103). -/
def subOffset (p : Pos) (n : Nat) : Pos := p - BitVec.ofNat 32 n

/-- The advance for a latency in µs at a speed (section 0.7, R102). -/
def advanceFor (latency speed : Nat) : Nat := min (latency * speed / 1000000) Config.maxAdvance

/-! ### Who goes first -/

/-- Settle an open order among `n` ways: the next number of `State.order`, or the first way (log 4). -/
def State.choose (s : State) (n : Nat) : Nat × State :=
  match s.order with
  | [] => (0, s)
  | k :: ks => (k % n, { s with order := ks })

/-- Put an element at a place of a list, at the end if the list is shorter. -/
def insertAt {α : Type} : Nat → α → List α → List α
  | 0, x, ys => x :: ys
  | _ + 1, x, [] => [x]
  | k + 1, x, y :: ys => y :: insertAt k x ys

/-- The arrangement of a list that a list of numbers gives; no numbers, no change. -/
def arrange {α : Type} : List Nat → List α → List α
  | _, [] => []
  | [], xs => xs
  | k :: ks, x :: xs => insertAt (k % (xs.length + 1)) x (arrange ks xs)

/-- Settle the order of things that arrive together. One thing or none needs no number (log 4). -/
def State.settle {α : Type} (s : State) (xs : List α) : List α × State :=
  if xs.length ≤ 1 then (xs, s)
  else (arrange s.order xs, { s with order := s.order.drop (xs.length - 1) })

/-! ### One lane, one valve, one queue -/

/-- One lane. -/
def State.lane (s : State) (l : Fin 8) : Lane := s.lanes.lanes[l]

/-- Write one lane. -/
def State.putLane (s : State) (l : Fin 8) (v : Lane) : State :=
  { s with lanes := { s.lanes with lanes := s.lanes.lanes.set l v } }

/-- Write the state of one lane. -/
def State.putLaneState (s : State) (l : Fin 8) (v : LaneState) : State :=
  s.putLane l { s.lane l with state := v }

/-- One valve. -/
def State.valve (s : State) (v : Fin 16) : Valve := s.drive.valves[v]

/-- Write one valve. -/
def State.putValve (s : State) (v : Fin 16) (x : Valve) : State :=
  { s with drive := { s.drive with valves := s.drive.valves.set v x } }

/-- The queue of one valve. -/
def State.queue (s : State) (v : Fin 16) : List Action := s.sched.queues[v]

/-- Write the queue of one valve. -/
def State.putQueue (s : State) (v : Fin 16) (q : List Action) : State :=
  { s with sched := { s.sched with queues := s.sched.queues.set v q } }

/-- The advances of one valve. -/
def State.advance (s : State) (v : Fin 16) : Advance := s.sched.advances[v]

/-- Action slots in use in all valve queues (R90). -/
def Schedule.slotsInUse (c : Schedule) : Nat := (allValves.map (fun v => c.queues[v].length)).sum

/-- Action slots in use. -/
def State.slotsInUse (s : State) : Nat := s.sched.slotsInUse

/-- The level an EYE pin has under the lane's present pull-up (R30). -/
def State.eyePin (s : State) (l : Fin 8) : Level := s.pins.eyes[l].level (s.lane l).cfg.pullUp

/-! ### One record -/

/-- The record that carries a tag. -/
def State.record? (s : State) (tag : Nat) : Option ItemRecord :=
  s.table.records.find? (fun r => r.tag == tag)

/-- Write the record list. -/
def State.putRecords (s : State) (rs : List ItemRecord) : State :=
  { s with table := { s.table with records := rs } }

/-- Change the record that carries a tag. -/
def State.updateRecord (s : State) (tag : Nat) (f : ItemRecord → ItemRecord) : State :=
  s.putRecords (s.table.records.map (fun r => if r.tag = tag then f r else r))

/-- Remove the record that carries a tag; those behind it move up (R49). -/
def State.removeRecord (s : State) (tag : Nat) : State :=
  s.putRecords (s.table.records.filter (fun r => r.tag != tag))

/-- The targets of a record; none before it is decided (Table 3-3). -/
def Progress.targets : Progress → List RecordTarget
  | .entering => [] | .awaiting _ => [] | .decided _ _ ts => ts | .defaulted _ ts => ts

/-- The closing fields of a record; absent in ENTERING (Table 3-3). -/
def Progress.closing? : Progress → Option Closing
  | .entering => none | .awaiting c => some c | .decided c _ _ => some c | .defaulted c _ => some c

/-- Change the targets of a record. -/
def Progress.mapTargets (f : List RecordTarget → List RecordTarget) : Progress → Progress
  | .entering => .entering
  | .awaiting c => .awaiting c
  | .decided c d ts => .decided c d (f ts)
  | .defaulted c ts => .defaulted c (f ts)

/-- Write the outcome of a contribution into the target it names (R63). -/
def State.writeOutcome (s : State) (o : TargetOutcome) (c : Contribution) : State :=
  s.updateRecord c.tag (fun r => { r with progress := r.progress.mapTargets (fun ts =>
    ts.modify c.index (fun t => { t with outcome := o })) })

/-- Write one outcome for each of several contributions (R63). -/
def State.writeOutcomes (s : State) (o : TargetOutcome) (cs : List Contribution) : State :=
  cs.foldl (fun s c => s.writeOutcome o c) s

end Sys2Proof.Machine
end

