-- ==== Sys2Proof/Machine/Flags.lean ====
section
/-! DEFINITION. The eleven fault flags with their reported marks (7.3), and the offering of notices (8.4). -/

namespace Sys2Proof.Machine

/-! ### Flags held by the Line Controller -/

/-- One flag. -/
def LineControl.flag (c : LineControl) (f : FaultFlag) : FlagState := c.flags[f.number]

/-- Write one flag. -/
def LineControl.putFlag (c : LineControl) (f : FaultFlag) (v : FlagState) : LineControl :=
  { c with flags := c.flags.set f.number v }

/-- One flag of the part. -/
def State.flag (s : State) (f : FaultFlag) : FlagState := s.ctrl.flag f

/-- Write one flag of the part. -/
def State.putFlag (s : State) (f : FaultFlag) (v : FlagState) : State :=
  { s with ctrl := s.ctrl.putFlag f v }

/-- The set of flags that are set, as two bytes (Table 9-6). -/
def LineControl.flagSet (c : LineControl) : Half :=
  setBits ((FaultFlag.all.filter (fun f => (c.flag f).set)).map (fun f => f.number.val))

/-- The reported marks of the set flags, as two bytes; 0 for every flag not set (Table 9-15). -/
def LineControl.markSet (c : LineControl) : Half :=
  setBits ((FaultFlag.all.filter (fun f => (c.flag f).set && (c.flag f).reported)).map
    (fun f => f.number.val))

/-! ### Offering a notice (R171, R172) -/

/-- The kind of a notice is enabled in the notice mask (R171, R173). -/
def Link.enables (l : Link) (n : Notice) : Bool := l.mask.getLsbD n.position

/-- The arbiter would choose a queued notice now: the transmitter is free and the reply slot empty (R174). -/
def Link.noticeCanBegin (l : Link) : Bool := l.tx == .free && l.slot.isNone

/-- The transmission of the oldest notice begins: it leaves the queue (R171, R175). -/
def Link.beginNotice (l : Link) : Link :=
  match l.notices with
  | n :: ns => { l with notices := ns, tx := .sending n.frame.bytes .nothing 0 }
  | [] => l

/-- A notice stands at the end of the queue (R171). -/
def Link.queueNotice (l : Link) (n : Notice) : Link := { l with notices := l.notices ++ [n] }

/-- The FAULT notice of NOTICE_DROP is offered behind the drop that set the flag. Masked, it is left out. With the queue
still full it is dropped, and the second drop clears a mark that is clear. If the transmission of a queued notice
begins between the two, it finds room (R172); where one can begin, which comes first is open (log 4, 14). -/
def State.offerDropFault (s : State) : State :=
  if s.link.enables (.fault .noticeDrop) && s.link.noticeCanBegin then
    let q := s.choose 2
    if q.1 = 0 then q.2
    else { q.2 with link := q.2.link.beginNotice.queueNotice (.fault .noticeDrop) }
  else s

/-- An occurrence of NOTICE_DROP: a set flag loses its mark; a clear one becomes set, and its FAULT notice is offered
(R160, R172). -/
def State.noticeDropped (s : State) : State :=
  let s1 := s.putFlag .noticeDrop ⟨true, false⟩
  if (s.flag .noticeDrop).set then s1 else s1.offerDropFault

/-- Offer a notice: left out if its kind is masked, queued if there is room, else dropped (R171). -/
def State.offer (s : State) (n : Notice) : State :=
  if s.link.enables n then
    if s.link.notices.length < Config.maxNotices then { s with link := s.link.queueNotice n }
    else s.noticeDropped
  else s

/-- An occurrence of a flag: a clear flag becomes set with its mark clear and its FAULT notice is offered; a set flag
loses its mark (R154, R160). -/
def State.occur (s : State) (f : FaultFlag) : State :=
  if (s.flag f).set then s.putFlag f ⟨true, false⟩
  else (s.putFlag f ⟨true, false⟩).offer (.fault f)

/-! ### Conditions and clearing (R155, R156) -/

/-- The position source as the other blocks see it. -/
def Source.kind : Source → SourceKind
  | .encoder => .encoder | .timed => .timed | .estimate => .estimate
  | .confirming _ => .confirming | .lost => .lost

/-- A lane is BLOCKED with cause LENGTH (R47). -/
def Lane.blockedByLength (l : Lane) : Bool := l.state == .blocked .length

/-- The condition of a flag; absent for the seven that have none (R155). -/
def State.condition (s : State) : FaultFlag → Bool
  | .encLost => match s.belt.source.kind with
    | .estimate => true | .confirming => true | .lost => true
    | .encoder => false | .timed => false
  | .trackHalt => match s.ctrl.line with
    | .halted _ => true | .config => false | .armed => false
  | .railLow => s.rail.state == .low
  | .eyeBlocked => allLanes.any (fun l => s.lanes.lanes[l].blockedByLength)
  | .encPhase => false
  | .valveOvertime => false
  | .tableFull => false
  | .schedFull => false
  | .linkError => false
  | .linkOverrun => false
  | .noticeDrop => false

/-- CLEAR_FAULTS for one named flag: cleared if set, reported and without its condition (R156). -/
def State.clearFlag (s : State) (f : FaultFlag) : State :=
  if (s.flag f).set && (s.flag f).reported && !s.condition f then s.putFlag f ⟨false, false⟩ else s

/-- STATUS sets the reported mark of a set flag (R158). -/
def State.markFlag (s : State) (f : FaultFlag) : State :=
  if (s.flag f).set then s.putFlag f ⟨true, true⟩ else s

end Sys2Proof.Machine
end

