-- ==== Sys2Proof/Machine/Schedule.lean ====
section
/-! DEFINITION. The Action Schedule (chapter 5): joining, admission, advances, and the removal of contributions. -/

namespace Sys2Proof.Machine

/-! ### Actions (R91, R108) -/

/-- Place a contribution in order of nominal open point, after those with an equal one (R91). -/
def insertContribution (c : Contribution) : List Contribution → List Contribution
  | [] => [c]
  | d :: ds => if comesAfter d.openAt c.openAt then c :: d :: ds else d :: insertContribution c ds

/-- The least nominal open point of a list of contributions with first element `c` (R91). -/
def leastOpen (c : Contribution) (cs : List Contribution) : Pos :=
  cs.foldl (fun p d => earlierOf p d.openAt) c.openAt

/-- The greatest nominal close point of a list of contributions with first element `c` (R91). -/
def greatestClose (c : Contribution) (cs : List Contribution) : Pos :=
  cs.foldl (fun p d => laterOf p d.closeAt) c.closeAt

/-- The action after a removal: a QUEUED one takes its points again from what remains, an OPEN one keeps its points,
and one that has lost its last contribution is removed (R91, R108). -/
def Action.keeping (a : Action) (cs : List Contribution) : Option Action :=
  match cs, a.state with
  | [], _ => none
  | c :: cs', .queued =>
    some { a with openAt := leastOpen c cs', closeAt := greatestClose c cs', contribs := c :: cs' }
  | c :: cs', .opened => some { a with contribs := c :: cs' }

/-! ### Joining (R94 to R97) -/

/-- A contribution touches an action of the same valve (R94). -/
def touches (gap : Nat) (c : Contribution) (a : Action) : Bool :=
  atOrBefore c.openAt (addOffset a.closeAt gap) && atOrBefore a.openAt (addOffset c.closeAt gap)

/-- A contribution on its own, as a new QUEUED action (R99). -/
def Action.ofContribution (c : Contribution) : Action :=
  { state := .queued, openAt := c.openAt, closeAt := c.closeAt, contribs := [c] }

/-- Two actions of one group as one action (R95, R97, R99): the contributions of both in order; an OPEN one stays OPEN
with its fixed open point. -/
def Action.merge (a b : Action) : Action :=
  { state := if a.state = .opened ∨ b.state = .opened then .opened else .queued,
    openAt := if a.state = .opened then a.openAt else if b.state = .opened then b.openAt
      else earlierOf a.openAt b.openAt,
    closeAt := laterOf a.closeAt b.closeAt,
    contribs := b.contribs.foldl (fun cs c => insertContribution c cs) a.contribs }

/-- Place an action in a queue by its open point (R93). -/
def insertAction (a : Action) : List Action → List Action
  | [] => [a]
  | b :: bs => if comesAfter b.openAt a.openAt then a :: b :: bs else b :: insertAction a bs

/-- The valve's queue has an OPEN action whose open point the contribution comes before (R96). -/
def opensTooEarly (c : Contribution) (q : List Action) : Bool :=
  q.any (fun a => a.state == .opened && comesAfter a.openAt c.openAt)

/-- Gather a new contribution with every action of the queue it touches into one action (R95, R99): the actions touched
become one, the contribution joins it, and it stands where its open point gives. None is a CONFLICT (R96). -/
def joinOne (gap : Nat) (c : Contribution) (q : List Action) : Option (List Action) :=
  let hit := q.filter (touches gap c)
  let rest := q.filter (fun a => !touches gap c a)
  let group := match hit with
    | [] => Action.ofContribution c
    | a :: as => (as.foldl Action.merge a).merge (.ofContribution c)
  if opensTooEarly c q ∨ group.contribs.length > Config.maxContributions then none
  else some (insertAction group rest)

/-! ### Admission (R98 to R100) -/

/-- One target handed for admission (R98). -/
structure Request where
  valve : Fin 16
  contribution : Contribution
  deriving DecidableEq, Repr

/-- How an admission ends (R98). -/
inductive Admission where
  | admitted (c : Schedule)
  | noRoom
  | conflict
  deriving DecidableEq, Repr

/-- Join the targets of one admission one after the other; none is a CONFLICT. A target that touches several groups
makes them one, so the result is the repeated gathering of R95. Contributions of one admission with equal open points
stand in the order of their target indices (model's choice, log 28). -/
def Schedule.join (c : Schedule) (minGap : Fin 16 → Nat) : List Request → Option Schedule
  | [] => some c
  | r :: rs =>
    match joinOne (minGap r.valve) r.contribution c.queues[r.valve] with
    | none => none
    | some q => Schedule.join { c with queues := c.queues.set r.valve q } minGap rs

/-- One admission as one event: placement first, then room (R98). -/
def Schedule.takeAll (c : Schedule) (minGap : Fin 16 → Nat) (rs : List Request) : Admission :=
  match c.join minGap rs with
  | none => .conflict
  | some c' => if c'.slotsInUse ≤ Config.maxSlots then .admitted c' else .noRoom

/-! ### Advances (R102) -/

/-- The advances of one valve at a speed. -/
def ValveParams.advanceAt (p : ValveParams) (speed : Nat) : Advance :=
  ⟨advanceFor p.openLatency speed, advanceFor p.closeLatency speed⟩

/-- One valve's advances worked out (R102). -/
def State.workOutAdvance (speed : Nat) (s : State) (v : Fin 16) : State :=
  { s with sched := { s.sched with
      advances := s.sched.advances.set v ((s.valve v).cfg.advanceAt speed) } }

/-- ADVANCE_UPDATE: every valve's advances worked out from the speed an update carries (R102). -/
def State.workOutAdvances (s : State) (speed : Nat) : State :=
  allValves.foldl (State.workOutAdvance speed) s

/-! ### Removal (5.6) -/

/-- Contributions of a tag in an action. -/
def Action.ofTag (a : Action) (tag : Nat) : List Contribution := a.contribs.filter (fun c => c.tag == tag)

/-- An action without the contributions of a tag (R108). An action that holds none of the tag is untouched. -/
def Action.withoutTag (a : Action) (tag : Nat) : Option Action :=
  if (a.ofTag tag).isEmpty then some a else a.keeping (a.contribs.filter (fun c => c.tag != tag))

/-- Contributions of a tag that stand in QUEUED actions of a queue (R109). -/
def queuedOfTag (tag : Nat) (q : List Action) : List Contribution :=
  (q.filter (fun a => a.state == .queued)).flatMap (fun a => a.ofTag tag)

/-- Contributions of a tag that stand in OPEN actions of a queue (R87, R109). -/
def openOfTag (tag : Nat) (q : List Action) : List Contribution :=
  (q.filter (fun a => a.state == .opened)).flatMap (fun a => a.ofTag tag)

/-- A queue after a CANCEL: QUEUED actions lose the tag's contributions, OPEN ones keep them (R109). -/
def cancelInQueue (tag : Nat) (q : List Action) : List Action :=
  q.filterMap (fun a => match a.state with
    | .queued => a.withoutTag tag
    | .opened => some a)

/-- A queue after a retirement: every contribution of the tag is removed (R110). -/
def retireInQueue (tag : Nat) (q : List Action) : List Action :=
  q.filterMap (fun a => a.withoutTag tag)

/-- The CANCEL of a tag in one valve's queue, with its outcomes (R109). -/
def State.cancelOnValve (tag : Nat) (s : State) (v : Fin 16) : State :=
  (s.putQueue v (cancelInQueue tag (s.queue v))).writeOutcomes .cancelled (queuedOfTag tag (s.queue v))

/-- The retirement of a tag in one valve's queue, with its outcomes (R110). -/
def State.retireOnValve (tag : Nat) (s : State) (v : Fin 16) : State :=
  (s.putQueue v (retireInQueue tag (s.queue v))).writeOutcomes .missed
    ((s.queue v).flatMap (fun a => a.ofTag tag))

/-- Contributions a CANCEL of the tag would remove, over all valves. -/
def State.cancelCount (s : State) (tag : Nat) : Nat :=
  (allValves.map (fun v => (queuedOfTag tag (s.queue v)).length)).sum

/-- Contributions of the tag in OPEN actions, over all valves (R89). -/
def State.runningCount (s : State) (tag : Nat) : Nat :=
  (allValves.map (fun v => (openOfTag tag (s.queue v)).length)).sum

/-- CANCEL_REMOVAL: the contributions of a tag in QUEUED actions leave as CANCELLED (R109). -/
def State.cancelRemoval (s : State) (tag : Nat) : State := allValves.foldl (State.cancelOnValve tag) s

/-- The contributions of a retiring record leave as MISSED (R110). -/
def State.retireRemoval (s : State) (tag : Nat) : State := allValves.foldl (State.retireOnValve tag) s

/-- The contributions of the OPEN actions of a queue. -/
def openContribs (q : List Action) : List Contribution :=
  (q.filter (fun a => a.state == .opened)).flatMap Action.contribs

/-- The contributions of the QUEUED actions of a queue. -/
def queuedContribs (q : List Action) : List Contribution :=
  (q.filter (fun a => a.state == .queued)).flatMap Action.contribs

/-- The OPEN action of a valve is cut: its contributions take CUT, its slot is freed, the QUEUED ones stay (R107). -/
def State.cutOpenAction (s : State) (v : Fin 16) : State :=
  (s.putQueue v ((s.queue v).filter (fun a => a.state == .queued))).writeOutcomes .cut
    (openContribs (s.queue v))

/-- QUEUE_PURGE: the OPEN action is cut, every QUEUED action is removed as MISSED, the queue is empty (R111). -/
def State.purgeQueue (s : State) (v : Fin 16) : State :=
  ((s.putQueue v []).writeOutcomes .cut (openContribs (s.queue v))).writeOutcomes .missed
    (queuedContribs (s.queue v))

/-- QUEUE_EMPTYING: every queue emptied, every slot freed, no outcome written (R112). -/
def State.emptyQueues (s : State) : State :=
  { s with sched := { s.sched with queues := Vector.replicate 16 [] } }

end Sys2Proof.Machine
end

