-- ==== Sys2Proof/Machine/Valves.lean ====
section
/-! DEFINITION. The Valve Drive (chapter 6) with the head examination of chapter 5: opening, pull-in and hold, PWM,
cuts, overtime, disabling and test fire. -/

namespace Sys2Proof.Machine

/-! ### Output (6.2, 6.4) -/

/-- The level of a VALVE pin. -/
inductive PinLevel where
  | highZ | low | high
  deriving DecidableEq, Repr

/-- Table 6-3. -/
def Valve.pin (x : Valve) : PinLevel :=
  match x.cfg.mode, x.out with
  | .off, _ => .highZ
  | .activeHigh, true => .high
  | .activeHigh, false => .low
  | .activeLow, true => .low
  | .activeLow, false => .high

/-- The period offset of a valve (R121). -/
def periodOffset (period : Nat) (v : Fin 16) : Nat := v.val * period / 16

/-- The part of each period in which a holding output is on (R122). -/
def onTime (period duty : Nat) : Nat := period * duty / 64

/-- Microseconds since the last period start of a valve (R122, R124). -/
def Drive.sincePeriod (d : Drive) (v : Fin 16) : Nat :=
  (d.base + d.period - periodOffset d.period v) % d.period

/-- A holding output at this moment: on in the first part of its period (R122). -/
def State.holdOut (s : State) (v : Fin 16) : Bool :=
  s.drive.sincePeriod v < onTime s.drive.period (s.valve v).duty

/-- PULL_IN or HOLD: the valve carries the OPEN head (Table 6-4). -/
def Valve.carrying (x : Valve) : Bool :=
  match x.state with
  | .pullIn => true | .hold => true | .idle => false | .test _ _ => false | .disabled => false

/-- PULL_IN, HOLD or TEST: the active-time timer runs (R125). -/
def Valve.isActive (x : Valve) : Bool :=
  match x.state with
  | .pullIn => true | .hold => true | .test _ _ => true | .idle => false | .disabled => false

/-- HOLD, or the HOLD phase of TEST: the output follows the duty (R122). -/
def Valve.holding (x : Valve) : Bool :=
  match x.state with
  | .hold => true | .test .hold _ => true
  | .pullIn => false | .test .pull _ => false | .idle => false | .disabled => false

/-- PULL_IN, or the PULL phase of TEST: the pull-in timer runs (R119, R137). -/
def Valve.pulling (x : Valve) : Bool :=
  match x.state with
  | .pullIn => true | .test .pull _ => true
  | .hold => false | .test .hold _ => false | .idle => false | .disabled => false

/-- To IDLE: output off, pull-in timer 0, active time held (R120, R129). -/
def Valve.release (x : Valve) : Valve := { x with state := .idle, out := false, pull := 0 }

/-- To DISABLED: output off, pull-in timer 0, active time held (R126, R133). -/
def Valve.disable (x : Valve) : Valve := { x with state := .disabled, out := false, pull := 0 }

/-- Put one valve to IDLE. -/
def State.releaseValve (s : State) (v : Fin 16) : State := s.putValve v (s.valve v).release

/-! ### Opening (R118, R139) -/

/-- OPENING_START and TEST_TAKEOVER: the head has become OPEN. From IDLE the timers start from 0 (R118); from TEST the
phase, the timers and the output go on (R139). -/
def State.startOpening (s : State) (v : Fin 16) : State :=
  let x := s.valve v
  match x.state with
  | .test .pull _ => s.putValve v { x with state := .pullIn }
  | .test .hold _ => s.putValve v { x with state := .hold }
  | .disabled => s
  | _ =>
    if 0 < x.cfg.pullIn then
      s.putValve v { x with state := .pullIn, active := 0, pull := 0, out := true }
    else
      s.putValve v { x with state := .hold, active := 0, pull := 0, out := s.holdOut v }

/-! ### Head examination (R104 to R106) -/

/-- The effective open point is reached at a position (R103). -/
def effOpenReached (position : Pos) (adv : Advance) (openAt : Pos) : Bool :=
  reached position (subOffset openAt adv.openBy)

/-- The effective close point is reached at a position (R103). -/
def effCloseReached (position : Pos) (adv : Advance) (closeAt : Pos) : Bool :=
  reached position (subOffset closeAt adv.closeBy)

/-- The contributions of an action whose effective close point is reached. -/
def Action.closing (a : Action) (position : Pos) (adv : Advance) : List Contribution :=
  a.contribs.filter (fun c => effCloseReached position adv c.closeAt)

/-- The contributions of an action whose effective close point is not reached. -/
def Action.staying (a : Action) (position : Pos) (adv : Advance) : List Contribution :=
  a.contribs.filter (fun c => !effCloseReached position adv c.closeAt)

/-- A PENDING contribution whose effective open point is reached: it becomes ACTIVE (R104, R105). -/
def Contribution.starts (position : Pos) (adv : Advance) (c : Contribution) : Bool :=
  c.phase == .pending && effOpenReached position adv c.openAt

/-- A contribution after the update (R104, R105). -/
def Contribution.advanced (position : Pos) (adv : Advance) (c : Contribution) : Contribution :=
  if c.starts position adv then { c with phase := .active } else c

/-- The head, OPEN and still carried: it holds what stays (R104, R105). -/
def Action.carried (a : Action) (position : Pos) (adv : Advance) : Action :=
  { a with state := .opened,
           contribs := (a.staying position adv).map (Contribution.advanced position adv) }

/-- An action is through: its effective close point, or that of its last contribution, is reached (R104, R106). -/
def Action.over (a : Action) (position : Pos) (adv : Advance) : Bool :=
  effCloseReached position adv a.closeAt || (a.staying position adv).isEmpty

/-- HEAD_EXAMINATION, CONTRIBUTION_PROGRESS and ACTION_END for one valve on a FORWARD update. The queue is worked from
its head: an OPEN head ends (DONE) or carries on; a QUEUED head whose effective open point is reached is removed
unopened (MISSED) or becomes OPEN; after an end or a removal the next action is examined on the same update. -/
def State.examineQueue (position : Pos) (v : Fin 16) : List Action → State → State
  | [], s => s.putQueue v []
  | a :: as, s =>
    match a.state with
    | .opened =>
      if a.over position (s.advance v) then
        State.examineQueue position v as ((s.writeOutcomes .done a.contribs).releaseValve v)
      else
        ((s.writeOutcomes .done (a.closing position (s.advance v))).writeOutcomes .active
          ((a.staying position (s.advance v)).filter (Contribution.starts position (s.advance v)))).putQueue v
            (a.carried position (s.advance v) :: as)
    | .queued =>
      if !effOpenReached position (s.advance v) a.openAt then s.putQueue v (a :: as)
      else if a.over position (s.advance v) || s.drive.rail == .low then
        State.examineQueue position v as (s.writeOutcomes .missed a.contribs)
      else
        (((s.writeOutcomes .missed (a.closing position (s.advance v))).writeOutcomes .active
          ((a.staying position (s.advance v)).filter (Contribution.starts position (s.advance v)))).putQueue v
            (a.carried position (s.advance v) :: as)).startOpening v

/-- The examination of one valve's queue. -/
def State.examineValve (position : Pos) (s : State) (v : Fin 16) : State :=
  s.examineQueue position v (s.queue v)

/-! ### Cuts (6.6) -/

/-- MOTION_CUT of one valve: PULL_IN and HOLD end, the OPEN action is cut (R129). -/
def State.motionCut (s : State) (v : Fin 16) : State :=
  if (s.valve v).carrying then (s.releaseValve v).cutOpenAction v else s

/-- RAIL_CUT of one valve: PULL_IN, HOLD and TEST end, an OPEN action is cut (R130). -/
def State.railCut (s : State) (v : Fin 16) : State :=
  if (s.valve v).isActive then (s.releaseValve v).cutOpenAction v else s

/-- LINE_CUT of one valve: PULL_IN, HOLD and TEST end; no outcome is written (R131). -/
def State.lineCut (s : State) (v : Fin 16) : State :=
  if (s.valve v).isActive then s.releaseValve v else s

/-! ### Timers (R119, R126, R137) -/

/-- The pull-in timer reaches the pull-in time: HOLD, or the HOLD phase of TEST (R119, R137). -/
def State.pullInExpiry (s : State) (v : Fin 16) : State :=
  let x := s.valve v
  match x.state with
  | .pullIn => s.putValve v { x with state := .hold, pull := x.cfg.pullIn, out := s.holdOut v }
  | .test .pull d => s.putValve v { x with state := .test .hold d, pull := x.cfg.pullIn, out := s.holdOut v }
  | _ => s

/-- The active time of a carrying valve reaches its max open time (R126, R127). -/
def State.overtimeOf (s : State) (v : Fin 16) : State :=
  if (s.valve v).carrying then
    ((((s.putValve v { (s.valve v).disable with active := (s.valve v).cfg.maxOpen * 1000 }).purgeQueue v).occur
      .valveOvertime).offer
        (.valveOvertime v (openContribs (s.queue v)).length (queuedContribs (s.queue v)).length))
  else s

/-- The active time of a valve in TEST reaches the test duration (R137). -/
def State.testEndOf (s : State) (v : Fin 16) : State :=
  match (s.valve v).state with
  | .test _ d => s.putValve v { (s.valve v).release with active := d * 1000 }
  | _ => s

/-! ### PWM (R121 to R124) -/

/-- The pending duty of a valve becomes current (R123). -/
def State.takePending (s : State) (v : Fin 16) : State :=
  s.putValve v { s.valve v with duty := (s.valve v).pendingDuty }

/-- A holding output takes the level its place in the period gives (R122). -/
def State.refreshHold (s : State) (v : Fin 16) : State :=
  if (s.valve v).holding then s.putValve v { s.valve v with out := s.holdOut v } else s

/-- A period start of a valve: the base stands at its offset, the pending duty becomes current, a holding output goes
on (R121, R122, R123). -/
def State.periodStart (s : State) (v : Fin 16) : State :=
  let s1 := { s with drive := { s.drive with base := periodOffset s.drive.period v } }
  (s1.takePending v).refreshHold v

/-- The on time of a holding valve has elapsed in its period: the output goes off (R122). -/
def State.onTimeEnd (s : State) (v : Fin 16) : State :=
  let t := onTime s.drive.period (s.valve v).duty
  if (s.valve v).holding && (s.valve v).out && t < s.drive.period then
    let s1 := { s with drive := { s.drive with
      base := (periodOffset s.drive.period v + t) % s.drive.period } }
    s1.putValve v { s.valve v with out := false }
  else s

/-- One valve at a restart of the common base: a new offset of 0 makes the restart its period start; a holding output
continues as at an entry into HOLD (R124). For valve 0 in the HOLD phase of TEST the manual says both that the restart
is a period start and that the current duty does not change at it: here its pending duty becomes current, as at every
period start (model's choice, log 30). -/
def State.restartValve (s : State) (v : Fin 16) : State :=
  (if periodOffset s.drive.period v = 0 then s.takePending v else s).refreshHold v

/-- PWM_BASE_RESTART: SET_LINE hands the PWM period (R4, R124). -/
def State.restartPwm (s : State) (period : Nat) : State :=
  allValves.foldl State.restartValve { s with drive := { s.drive with period := period, base := 0 } }

/-! ### Disabling, enabling, test fire (6.7, 6.8) -/

/-- DISABLE_VALVE on a valve that is not DISABLED: cut, purge, DISABLED (R133). -/
def State.disableValve (s : State) (v : Fin 16) : State :=
  if (s.valve v).state = .disabled then s
  else (s.putValve v (s.valve v).disable).purgeQueue v

/-- ENABLE_VALVE: a DISABLED valve enters IDLE with its active time at 0 (R134). -/
def State.enableValve (s : State) (v : Fin 16) : State :=
  if (s.valve v).state = .disabled then s.putValve v { s.valve v with state := .idle, active := 0 } else s

/-- Entry into TEST (R137). -/
def State.startTest (s : State) (v : Fin 16) (duration : Nat) : State :=
  let x := s.valve v
  if 0 < x.cfg.pullIn then
    s.putValve v { x with state := .test .pull duration, active := 0, pull := 0, out := true }
  else
    s.putValve v { x with state := .test .hold duration, active := 0, pull := 0, out := s.holdOut v }

/-- The parameters of an accepted SET_VALVE (R115): a test in CONFIG ends first, both duties take the hold duty. -/
def State.applyValve (s : State) (v : Fin 16) (p : ValveParams) : State :=
  let x := match (s.valve v).state with
    | .test _ _ => (s.valve v).release
    | _ => s.valve v
  s.putValve v { x with cfg := p, duty := p.holdDuty, pendingDuty := p.holdDuty }

end Sys2Proof.Machine
end

