-- ==== Sys2Proof/Machine/Tracking.lean ====
section
/-! DEFINITION. The Tracking Table (chapter 3): tags, creation, closing, discard, horizon and exit, lane defaults,
retirement; and the nominal points of targets (4.1). -/

namespace Sys2Proof.Machine

/-! ### Tags (R50) -/

/-- The tag value after one, 65,535 followed by 1 (R50). -/
def succTag (t : Nat) : Nat := if Config.maxTag ≤ t then 1 else t + 1

/-- The first value from `t` on that no record carries, within a number of tries (R50). -/
def freeTag (used : List Nat) : Nat → Nat → Nat
  | 0, t => t
  | n + 1, t => if used.contains t then freeTag used n (succTag t) else t

/-- The tag a new record takes (R50). -/
def Table.tagToUse (t : Table) : Nat :=
  freeTag (t.records.map (fun r => r.tag)) t.records.length t.nextTag

/-! ### Creation (R52) -/

/-- A new item as a lane hands it (R41). -/
structure NewItem where
  lane : Fin 8
  leading : Pos
  estimated : Bool
  horizon : Pos
  snapshot : Snapshot
  deriving DecidableEq, Repr

/-- The record made of a new item (R52). -/
def NewItem.record (i : NewItem) (tag : Nat) : ItemRecord :=
  { tag := tag, lane := i.lane, leading := i.leading, estimated := i.estimated, blocked := false,
    horizon := i.horizon, snapshot := i.snapshot, progress := .entering }

/-- NEW_RECORD: the record goes to the end of the list under a free tag, and the counter moves on (R50, R52). -/
def State.addRecord (s : State) (i : NewItem) : State :=
  { s with table := { s.table with
      records := s.table.records ++ [i.record s.table.tagToUse],
      nextTag := succTag s.table.tagToUse } }

/-- ITEM_DISCARD: the ENTERING record is removed and ITEM_DISCARDED is offered (R55, R67). A tag whose record is not
ENTERING, or is not held, changes nothing. -/
def State.discard (s : State) (tag : Nat) (why : DiscardReason) : State :=
  match s.record? tag with
  | some r =>
    match r.progress with
    | .entering => (s.removeRecord tag).offer (.itemDiscarded r.lane tag why)
    | _ => s
  | none => s

/-! ### Nominal points (R72, R73) -/

/-- A two's complement offset as a difference of positions (R181). -/
def signedOffset (h : Half) : Pos := h.signExtend 32

/-- The nominal open point (R72). -/
def Target.openPoint (t : Target) (nozzle eye : Nat) (leading : Pos) : Pos :=
  subOffset (addOffset leading nozzle) eye + signedOffset t.start

/-- The nominal close point (R73). -/
def Target.closePoint (t : Target) (nozzle eye : Nat) (leading trailing : Pos) : Pos :=
  match t.stop with
  | .itemEnd o => subOffset (addOffset trailing nozzle) eye + signedOffset o
  | .fixed span => addOffset (t.openPoint nozzle eye leading) span.toNat

/-- A target with its points computed. -/
structure Placed where
  valve : Fin 16
  openAt : Pos
  closeAt : Pos
  deriving DecidableEq, Repr

/-- The points of one target for one record, with the nozzle offset the valve has now (R60, R72). -/
def State.place (s : State) (r : ItemRecord) (c : Closing) (t : Target) : Placed :=
  { valve := t.valve,
    openAt := t.openPoint (s.valve t.valve).cfg.nozzleOffset r.snapshot.eyeOffset r.leading,
    closeAt := t.closePoint (s.valve t.valve).cfg.nozzleOffset r.snapshot.eyeOffset r.leading c.trailing }

/-- The entry of the record's targets list (R60, R80). -/
def Placed.entry (o : TargetOutcome) (p : Placed) : RecordTarget := ⟨p.valve, p.openAt, p.closeAt, o⟩

/-- The valve can be named: output mode other than OFF (R76, R60). -/
def State.drivable (s : State) (v : Fin 16) : Bool := (s.valve v).cfg.mode != .off

/-- The valve is DISABLED (R77). -/
def State.isDisabled (s : State) (v : Fin 16) : Bool := (s.valve v).state == .disabled

/-- The close point comes after the open point and before the exit point (R77, R60). -/
def Placed.ordered (exitAt : Pos) (p : Placed) : Bool :=
  comesAfter p.closeAt p.openAt && comesAfter exitAt p.closeAt

/-- The targets of one admission, numbered from 0 (R71, R98), in the order in which they are placed (log 28). -/
def requestsOf (tag : Nat) (ps : List Placed) : List Request :=
  ps.zipIdx.map (fun q => ⟨q.1.valve, ⟨tag, q.2, q.1.openAt, q.1.closeAt, .pending⟩⟩)

/-- One admission of placed targets against the schedule, with the min gaps the valves hold (R94, R98). -/
def State.admission (s : State) (tag : Nat) (ps : List Placed) : Admission :=
  s.sched.takeAll (fun v => (s.valve v).cfg.minGap) (requestsOf tag ps)

/-! ### The lane default (R60, R61) -/

/-- Checks 1 to 3 of R60. -/
def State.defaultChecks (s : State) (c : Closing) (ps : List Placed) : Bool :=
  ps.all (fun p => s.drivable p.valve && !s.isDisabled p.valve) &&
  ps.all (Placed.ordered c.exitAt) &&
  ps.all (fun p => !reached s.table.position p.openAt)

/-- The record becomes DEFAULTED with one outcome in all its targets. -/
def State.setDefaulted (s : State) (tag : Nat) (c : Closing) (ps : List Placed) (o : TargetOutcome) : State :=
  s.updateRecord tag (fun r => { r with progress := .defaulted c (ps.map (Placed.entry o)) })

/-- A default that is not admitted: NOT_SCHEDULED targets, SCHED_FULL if admission itself failed, ITEM_DEFAULTED with
admitted NO (R61). -/
def State.defaultFailed (s : State) (tag : Nat) (c : Closing) (ps : List Placed) (full : Bool) : State :=
  let s1 := s.setDefaulted tag c ps .notScheduled
  (if full then s1.occur .schedFull else s1).offer (.itemDefaulted tag true false)

/-- DEFAULT_APPLICATION: the lane default of an AWAITING record's snapshot is checked and admitted or failed, the record
is DEFAULTED, and ITEM_DEFAULTED is offered (R60, R61, R68). -/
def State.applyDefault (s : State) (r : ItemRecord) (c : Closing) : State :=
  let ps := r.snapshot.default.map (s.place r c)
  if ps.isEmpty then (s.setDefaulted r.tag c [] .pending).offer (.itemDefaulted r.tag false true)
  else if s.defaultChecks c ps then
    match s.admission r.tag ps with
    | .admitted c' =>
      (({ s with sched := c' }).setDefaulted r.tag c ps .pending).offer (.itemDefaulted r.tag true true)
    | .noRoom => s.defaultFailed r.tag c ps true
    | .conflict => s.defaultFailed r.tag c ps true
  else s.defaultFailed r.tag c ps false

/-! ### Closing (R53, R54) -/

/-- The record of a closing (R53). -/
def ItemRecord.closed (r : ItemRecord) (c : Closing) (blocked estimated : Bool) : ItemRecord :=
  { r with progress := .awaiting c, blocked := blocked, estimated := r.estimated || estimated }

/-- ITEM_CLOSING: an ENTERING record is completed and enters AWAITING, ITEM_ENTERED is offered, and a horizon or exit
point already reached applies the default at once, whatever the motion state (R53, R54, R66). -/
def State.closeItem (s : State) (tag : Nat) (trailing : Pos) (length exitOffset : Nat)
    (blocked estimated : Bool) : State :=
  match s.record? tag with
  | some r =>
    match r.progress with
    | .entering =>
      let c : Closing := ⟨trailing, length, addOffset trailing exitOffset⟩
      let r1 := r.closed c blocked estimated
      let s1 := (s.updateRecord tag (fun _ => r1)).offer
        (.itemEntered tag r1.lane r1.leading trailing length r1.estimated r1.blocked r1.horizon c.exitAt)
      if reached s1.table.position r1.horizon || reached s1.table.position c.exitAt then s1.applyDefault r1 c
      else s1
    | _ => s
  | none => s

/-! ### Horizon, exit and retirement (R56, R59, R62) -/

/-- The decision of a decided or defaulted record (R69). -/
def Progress.finalDecision : Progress → FinalDecision
  | .decided _ .verdict _ => .verdict
  | .decided _ .cancel _ => .cancel
  | .defaulted _ _ => .default
  | .entering => .default
  | .awaiting _ => .default

/-- The ITEM_RETIRED notice of a record (R69). -/
def ItemRecord.retiredNotice (r : ItemRecord) : Notice :=
  .itemRetired r.tag r.lane r.progress.finalDecision r.estimated
    (r.progress.targets.map (fun t => (t.valve, t.outcome)))

/-- RETIREMENT: what is left of the record in the queues leaves as MISSED, the record leaves the table, ITEM_RETIRED is
offered with the final outcomes (R62, R69, R110). -/
def State.retire (s : State) (tag : Nat) : State :=
  let s1 := s.retireRemoval tag
  match s1.record? tag with
  | some r => (s1.removeRecord tag).offer r.retiredNotice
  | none => s1

/-- The checks of one record on a FORWARD update (R56, R57, R59). -/
def State.checkRecord (position : Pos) (s : State) (tag : Nat) : State :=
  match s.record? tag with
  | none => s
  | some r =>
    match r.progress with
    | .entering => s
    | .awaiting c =>
      if reached position r.horizon || reached position c.exitAt then
        let s1 := s.applyDefault r c
        if reached position c.exitAt then s1.retire tag else s1
      else s
    | .decided c _ _ => if reached position c.exitAt then s.retire tag else s
    | .defaulted c _ => if reached position c.exitAt then s.retire tag else s

/-- A position update as it is handed (R12). -/
structure Update where
  position : Pos
  kind : UpdateKind
  motion : Motion
  source : SourceKind
  speed : Nat
  deriving DecidableEq, Repr

/-- The Tracking Table takes an update: it records position and motion, and on FORWARD checks its records in entry order
(R56, R58). -/
def State.tableUpdate (u : Update) (s : State) : State :=
  let s1 := { s with table := { s.table with position := u.position, motion := u.motion } }
  if u.motion = .forward then
    (s1.table.records.map (fun r => r.tag)).foldl (State.checkRecord u.position) s1
  else s1

/-- TABLE_EMPTYING: every record removed with no notice; the tag counter stays (R64). -/
def State.emptyTable (s : State) : State := s.putRecords []

/-- The Action Schedule takes an update (R90, R102). -/
def State.scheduleUpdate (u : Update) (s : State) : State :=
  ({ s with sched := { s.sched with position := u.position, motion := u.motion, speed := u.speed } }).workOutAdvances
    u.speed

/-- The Valve Drive takes an update, after the Action Schedule: the heads are examined on FORWARD (R102, R104). -/
def State.driveUpdate (u : Update) (s : State) : State :=
  let s1 := s.scheduleUpdate u
  if u.motion = .forward then allValves.foldl (State.examineValve u.position) s1 else s1

end Sys2Proof.Machine
end

