-- ==== Sys2Proof/Machine/Lanes.lean ====
section
/-! DEFINITION. The Lane Inputs (chapter 2): the eye filter, the lane state machine, and what an accepted SET_LANE
does to both. -/

namespace Sys2Proof.Machine

/-! ### Making and closing items (R41 to R45) -/

/-- The snapshot a lane copies into a record (R41). -/
def LaneParams.snapshot (p : LaneParams) : Snapshot := ⟨p.eyeOffset, p.valveSet, p.default⟩

/-- The new item a present edge hands on (R41). -/
def State.newItem (s : State) (l : Fin 8) (c : Candidate) : NewItem :=
  { lane := l, leading := c.captured, estimated := c.estimated,
    horizon := addOffset c.captured (s.lane l).cfg.horizonOffset, snapshot := (s.lane l).cfg.snapshot }

/-- The open capture of a new record (R41). -/
def LaneParams.capture (p : LaneParams) (tag : Nat) (c : Candidate) : OpenCapture :=
  ⟨tag, c.captured, c.estimated, p.minLength, p.maxLength, p.exitOffset⟩

/-- A present edge in CLEAR asks for a record: OCCUPIED, or BLOCKED (FULL) with TABLE_FULL (R41, R42). -/
def State.askRecord (s : State) (l : Fin 8) (c : Candidate) : State :=
  if s.table.records.length < Config.maxRecords then
    (s.addRecord (s.newItem l c)).putLaneState l
      (.occupied ((s.lane l).cfg.capture s.table.tagToUse c))
  else (s.putLaneState l (.blocked .full)).occur .tableFull

/-- An absent edge in OCCUPIED: the item is closed at its trailing edge or discarded as SHORT; CLEAR (R43). Where the
position had passed the max-length point before the record was made and no update came between, the length is above the
max length: it is kept as found, the blocked mark clear (model's choice, log 27). -/
def State.closeByEdge (s : State) (l : Fin 8) (o : OpenCapture) (c : Candidate) : State :=
  let length := (c.captured - o.leading).toNat
  let s1 := s.putLaneState l .clear
  if comesAfter c.captured o.leading && o.minLength ≤ length then
    s1.closeItem o.tag c.captured length o.exitOffset false (o.estimated || c.estimated)
  else s1.discard o.tag .short

/-- The max-length point of an OCCUPIED lane (R44). -/
def OpenCapture.maxPoint (o : OpenCapture) : Pos := addOffset o.leading o.maxLength

/-- A source under which a capture is estimated (R35, R44). -/
def SourceKind.estimates : SourceKind → Bool
  | .estimate => true | .confirming => true | .encoder => false | .timed => false | .lost => false

/-- MAX_LENGTH_CLOSING of one lane: the item is closed as blocked, BLOCKED (LENGTH), EYE_BLOCKED (R44). -/
def State.closeByLength (u : Update) (s : State) (l : Fin 8) : State :=
  match (s.lane l).state with
  | .occupied o =>
    ((s.closeItem o.tag o.maxPoint o.maxLength o.exitOffset true
        (o.estimated || u.source.estimates)).putLaneState l (.blocked .length)).occur .eyeBlocked
  | _ => s

/-- The lane is OCCUPIED and the position reaches its max-length point (R44). -/
def Lane.tooLong (x : Lane) (position : Pos) : Bool :=
  match x.state with
  | .occupied o => reached position o.maxPoint
  | _ => false

/-- The Lane Inputs take an update (R12, R44). Which of several lanes closes first is open (log 4). -/
def State.lanesUpdate (u : Update) (s : State) : State :=
  let s1 := { s with lanes := { s.lanes with position := u.position, motion := u.motion, source := u.source } }
  let q := s1.settle (allLanes.filter (fun l => (s1.lane l).tooLong u.position))
  q.1.foldl (State.closeByLength u) q.2

/-- The lane's eye is present (R37). -/
def Lane.eyePresent (x : Lane) : Bool := x.confirmed == x.cfg.present

/-- REVERSAL_ABANDON of one lane: an ENTERING record is abandoned; BLOCKED (REVERSAL) or CLEAR by the eye (R45). -/
def State.abandonByReversal (s : State) (l : Fin 8) : State :=
  match (s.lane l).state with
  | .occupied o =>
    (s.putLaneState l (if (s.lane l).eyePresent then .blocked .reversal else .clear)).discard o.tag .abandoned
  | _ => s

/-- The lane is OCCUPIED. -/
def Lane.isOccupied (x : Lane) : Bool :=
  match x.state with
  | .occupied _ => true | .off => false | .clear => false | .blocked _ => false

/-! ### Confirmed edges (R37, R40, R47) -/

/-- CONFIRMED_EDGE: the candidate's level becomes the confirmed level and its edge acts on the lane state (R36, R37). -/
def State.confirmEdge (s : State) (l : Fin 8) (c : Candidate) : State :=
  let s1 := s.putLane l { s.lane l with confirmed := c.level, candidate := none }
  let present := c.level == (s.lane l).cfg.present
  match (s.lane l).state with
  | .off => s1
  | .clear =>
    if present then
      if s1.lanes.motion = .reverse then s1.putLaneState l (.blocked .reversal) else s1.askRecord l c
    else s1
  | .occupied o => if present then s1 else s1.closeByEdge l o c
  | .blocked _ => if present then s1 else s1.putLaneState l .clear

/-- The candidate of a lane has held for its debounce time (R36). -/
def State.debounce (s : State) (l : Fin 8) : State :=
  match (s.lane l).candidate with
  | some c => s.confirmEdge l c
  | none => s

/-- The candidate a raw change opens (R35). -/
def State.openCandidate (s : State) (l : Fin 8) (level : Level) : Candidate :=
  { level := level, captured := s.lanes.position, estimated := s.lanes.source.estimates,
    start := s.now, debounce := (s.lane l).cfg.debounce }

/-- One sample of an EYE pin (R34 to R36): a level unlike the confirmed one opens a candidate, confirmed at once with a
debounce time of 0; a return to the confirmed level drops an open candidate. -/
def State.sampleEye (s : State) (l : Fin 8) (level : Level) : State :=
  let s1 := s.putLane l { s.lane l with raw := level }
  match (s.lane l).candidate with
  | some _ =>
    if level = (s.lane l).confirmed then s1.putLane l { s1.lane l with candidate := none } else s1
  | none =>
    if level = (s.lane l).confirmed then s1
    else
      let s2 := s1.putLane l { s1.lane l with candidate := some (s.openCandidate l level) }
      if (s.lane l).cfg.debounce = 0 then s2.debounce l else s2

/-! ### Activation and leaving ARMED (R38, R39) -/

/-- LANE_ACTIVATION: CLEAR, or BLOCKED (ACTIVATION), by the eye level (R38). -/
def State.activateLane (s : State) (l : Fin 8) : State :=
  s.putLaneState l (if (s.lane l).eyePresent then .blocked .activation else .clear)

/-- ARM makes the enabled lanes active (R145). -/
def State.activateIfEnabled (s : State) (l : Fin 8) : State :=
  if (s.lane l).cfg.enabled then s.activateLane l else s

/-- LANES_OFF: every lane OFF, with no abandonment (R39). -/
def State.lanesOff (s : State) : State := allLanes.foldl (fun s l => s.putLaneState l .off) s

/-! ### SET_LANE (R30, R31) -/

/-- The ENTERING record of an OCCUPIED lane is abandoned with reason LANE_OFF (R31). -/
def State.abandonByLane (s : State) (l : Fin 8) : State :=
  match (s.lane l).state with
  | .occupied o => s.discard o.tag .laneOff
  | _ => s

/-- An accepted SET_LANE: the parameters take their new values together, and the lane state follows R31. The filter
keeps its levels and its candidate (R30). -/
def State.applyLane (s : State) (l : Fin 8) (p : LaneParams) : State :=
  let old := (s.lane l).cfg
  let s1 := s.putLane l { s.lane l with cfg := p }
  if old.enabled && !p.enabled then (s1.abandonByLane l).putLaneState l .off
  else if !old.enabled && p.enabled then
    if s.ctrl.line = .armed then s1.activateLane l else s1
  else if p.enabled && s.ctrl.line == .armed && old.present != p.present then
    (s1.abandonByLane l).activateLane l
  else s1

end Sys2Proof.Machine
end

