-- ==== Sys2Proof/Machine/LineControl.lean ====
section
/-! DEFINITION. The Line Controller and the Rail Monitor (chapter 7): leaving ARMED, HALTED entry, the decisions on
source events, motion changes as they are handed on, and the rail. -/

namespace Sys2Proof.Machine

/-! ### Leaving ARMED (R146, R149) -/

/-- What every exit from ARMED does at one change: lanes OFF, valves cut, queues and table emptied (R39, R64, R112,
R131). -/
def State.leaveArmed (s : State) : State :=
  (allValves.foldl State.lineCut s.lanesOff).emptyQueues.emptyTable

/-- Write the line state. -/
def State.putLine (s : State) (l : LineState) : State := { s with ctrl := { s.ctrl with line := l } }

/-- HALTED_ENTRY of an ARMED line; in CONFIG and HALTED nothing changes (R148, R149, R150). -/
def State.halt (s : State) (why : HaltCause) : State :=
  if s.ctrl.line = .armed then
    ((((s.putLine (.halted why)).leaveArmed).occur .trackHalt).offer
      (.lineState (.halted why) s.table.records.length s.slotsInUse))
  else s

/-- The halt cause of an entry into LOST, if it halts (Table 7-5). -/
def haltCauseOf (cause : LostCause) (run : Bool) : Option HaltCause :=
  match cause with
  | .limit => some .limit
  | .loss => some .loss
  | .gap => if run then some .gap else none
  | .runOff => none

/-- The Line Controller takes an entry into LOST (R148). -/
def State.takeLost (s : State) (cause : LostCause) : State :=
  match haltCauseOf cause s.belt.run with
  | some c => s.halt c
  | none => s

/-- The Line Controller takes a SILENCE event (R148). -/
def State.takeSilence (s : State) : State := s.halt .silence

/-! ### Source and motion changes as they are handed on (R17, R26) -/

/-- The Lane Inputs take a source change (R26). -/
def State.lanesSource (s : State) (k : SourceKind) : State :=
  { s with lanes := { s.lanes with source := k } }

/-- SOURCE_CHANGE to a source other than LOST: LINE_EVENT SOURCE, then the receivers (R26). -/
def State.handSource (s : State) : State :=
  (s.offer (.source s.belt.source.kind none)).lanesSource s.belt.source.kind

/-- SOURCE_CHANGE into LOST: LINE_EVENT SOURCE with its cause stands before the notices of a halt (R26, R149). -/
def State.handLost (s : State) (cause : LostCause) : State :=
  (((s.offer (.source .lost (some cause))).lanesSource .lost).takeLost cause)

/-- SOURCE_CHANGE into LOST with a SILENCE event handed together (R25): which of the two the Line Controller takes
first is open (R148, log 4, 17). -/
def State.handLostAndSilence (s : State) (cause : LostCause) : State :=
  let s1 := (s.offer (.source .lost (some cause))).lanesSource .lost
  let q := s1.choose 2
  if q.1 = 0 then (q.2.takeLost cause).takeSilence else q.2.takeSilence.takeLost cause

/-- The Lane Inputs take a motion change: entering REVERSE abandons ENTERING records (R45, R46). -/
def State.lanesMotion (s : State) (new : Motion) : State :=
  let s1 := { s with lanes := { s.lanes with motion := new } }
  if new = .reverse then
    let q := s1.settle (allLanes.filter (fun l => (s1.lane l).isOccupied))
    q.1.foldl State.abandonByReversal q.2
  else s1

/-- The Valve Drive takes a motion change: leaving FORWARD cuts PULL_IN and HOLD (R129). -/
def State.driveMotion (s : State) (old new : Motion) : State :=
  let s1 := { s with drive := { s.drive with motion := new } }
  if old = .forward ∧ new ≠ .forward then allValves.foldl State.motionCut s1 else s1

/-- The Line Controller takes a motion change (R143). -/
def State.ctrlMotion (s : State) (new : Motion) : State :=
  { s with ctrl := { s.ctrl with motion := new } }

/-- The belt's present motion as a MOTION notice (R17). -/
def State.motionNotice (s : State) : Notice := .motion s.belt.motion s.belt.position

/-- MOTION_CHANGE: the change from `old` to the belt's present motion is handed to the Lane Inputs, the Valve Drive and
the Line Controller, and MOTION is offered (R17). Whether MOTION or the notices of abandoned items are offered first
is open (log 4). -/
def State.handMotion (s : State) (old : Motion) : State :=
  if s.belt.motion = old then s
  else
    let q := s.choose 2
    if q.1 = 0 then
      (((q.2.offer s.motionNotice).lanesMotion s.belt.motion).driveMotion old s.belt.motion).ctrlMotion s.belt.motion
    else
      (((q.2.lanesMotion s.belt.motion).driveMotion old s.belt.motion).ctrlMotion s.belt.motion).offer s.motionNotice

/-! ### Rail (7.2) -/

/-- The rail enters LOW from NORMAL (R130, R152). -/
def State.railFalls (s : State) : State :=
  let s1 := { s with rail := ⟨.low, 0⟩, drive := { s.drive with rail := .low } }
  ((allValves.foldl State.railCut s1).occur .railLow).offer (.rail .low)

/-- The rail enters NORMAL from LOW (R153). -/
def State.railRises (s : State) : State :=
  ({ s with rail := ⟨.normal, 0⟩, drive := { s.drive with rail := .normal } }).offer (.rail .normal)

/-! ### ARM and DISARM (R145, R146) -/

/-- An accepted ARM: the line is ARMED and the enabled lanes become active (R145). -/
def State.armLine (s : State) : State :=
  (allLanes.foldl State.activateIfEnabled (s.putLine .armed)).offer (.lineState .armed 0 0)

/-- DISARM from ARMED or HALTED (R146). -/
def State.disarmLine (s : State) : State :=
  ((s.putLine .config).leaveArmed).offer (.lineState .config s.table.records.length s.slotsInUse)

end Sys2Proof.Machine
end

