-- ==== Sys2Proof/Machine/Belt.lean ====
section
/-! DEFINITION. The Belt Position Unit (chapter 1): counting, motion, speed, the position source and its timers,
RUN, and the effects of SET_LINE and SET_POSITION. -/

namespace Sys2Proof.Machine

/-! ### Speed (R19) -/

/-- The measured speed of an interval history. Intervals below 2 µs give the limit, 0 µs among them (R19, log 9). -/
def measuredSpeed (history : List Nat) : Nat :=
  if history.length = 0 then 0
  else if history.sum = 0 then Config.maxSpeed
  else min (history.length * 1000000 / history.sum) Config.maxSpeed

/-- The reported speed (Table 1-4). -/
def Belt.speed (b : Belt) : Nat :=
  match b.motion, b.source with
  | .stopped, _ => 0
  | _, .encoder => measuredSpeed b.history
  | .forward, .timed => b.par.timedSpeed
  | .forward, .estimate => b.frozen
  | .forward, .confirming c => match c.origin with
    | .estimate => b.frozen
    | .lost => measuredSpeed b.history
  | .reverse, .confirming _ => measuredSpeed b.history
  | .reverse, .timed => 0
  | .reverse, .estimate => 0
  | _, .lost => 0

/-! ### One count (R11, R14, R15, R18) -/

/-- A count moves the position by one (R11). -/
def Belt.move (b : Belt) (d : Dir) : Belt :=
  { b with position := match d with
    | .forward => b.position + 1
    | .reverse => b.position - 1 }

/-- A count fed to the reversal accumulator (R14, R15). -/
def Belt.feed (b : Belt) (d : Dir) : Belt :=
  match b.motion, d with
  | .stopped, .forward =>
    if (b.par.reversal : Int) ≤ b.acc + 1 then { b with motion := .forward, acc := 0 }
    else { b with acc := b.acc + 1 }
  | .stopped, .reverse =>
    if b.acc - 1 ≤ -(b.par.reversal : Int) then { b with motion := .reverse, acc := 0 }
    else { b with acc := b.acc - 1 }
  | .forward, .reverse =>
    if (b.par.reversal : Int) ≤ b.acc + 1 then { b with motion := .reverse, acc := 0 }
    else { b with acc := b.acc + 1 }
  | .forward, .forward => if 0 < b.acc then { b with acc := b.acc - 1 } else b
  | .reverse, .forward =>
    if (b.par.reversal : Int) ≤ b.acc + 1 then { b with motion := .forward, acc := 0 }
    else { b with acc := b.acc + 1 }
  | .reverse, .reverse => if 0 < b.acc then { b with acc := b.acc - 1 } else b

/-- An interval added at the end of the history, the oldest of 8 leaving first (R18). -/
def pushInterval (history : List Nat) (i : Nat) : List Nat :=
  (if Config.maxIntervals ≤ history.length then history.drop 1 else history) ++ [min i Config.maxInterval]

/-- An encoder count timed for the speed (R18). -/
def Belt.time (b : Belt) (d : Dir) (now : Nat) : Belt :=
  { b with
    history := match b.last with
      | some l => if l.dir = d then pushInterval b.history (now - l.time) else b.history
      | none => b.history,
    last := some ⟨d, now⟩ }

/-- What an encoder count does to the source; in CONFIRMING, one within the loss time after the count before it (R22, R23,
R25; a later one meets another source, State.takeCount). -/
def Belt.confirm (b : Belt) : Belt :=
  match b.source with
  | .encoder => b
  | .timed => b
  | .estimate => { b with source := .confirming ⟨.estimate, 1, 0⟩, gen := none }
  | .lost => { b with source := .confirming ⟨.lost, 1, 0⟩, silenceTimer := none }
  | .confirming c =>
    if Config.confirmCounts ≤ c.count + 1 then
      { b with source := .encoder, limitTimer := none, limitExpired := false, frozen := 0,
               restart := false, silenceTimer := none }
    else { b with source := .confirming ⟨c.origin, c.count + 1, 0⟩ }

/-- The stop timer runs from 0 while RUN is inactive, the motion is not STOPPED and the source is ENCODER or CONFIRMING
(R16). -/
def Belt.restartStop (b : Belt) : Belt :=
  { b with stopTimer :=
      match b.source with
      | .encoder => if !b.run && b.motion != .stopped then some 0 else none
      | .confirming _ => if !b.run && b.motion != .stopped then some 0 else none
      | .timed => none
      | .estimate => none
      | .lost => none }

/-- The loss timer runs from 0 while the source is ENCODER and RUN is active (R20). -/
def Belt.restartLoss (b : Belt) : Belt :=
  { b with lossTimer :=
      match b.source with
      | .encoder => if b.run then some 0 else none
      | .timed => none
      | .estimate => none
      | .confirming _ => none
      | .lost => none }

/-- The belt after an encoder count (R12, R18, R20, R22, R23, R25). -/
def Belt.encoderCount (b : Belt) (d : Dir) (now : Nat) : Belt :=
  ((((((b.move d).feed d).time d now).confirm).restartStop).restartLoss)

/-- The belt after a generated count (R21, R27). -/
def Belt.generatedCount (b : Belt) : Belt := (b.move .forward).feed .forward

/-! ### Position updates (R12) -/

/-- The update that is handed for the belt as it stands (R12). -/
def Belt.update (b : Belt) (kind : UpdateKind) : Update :=
  ⟨b.position, kind, b.motion, b.source.kind, b.speed⟩

/-- POSITION_UPDATE: the update is handed to the Lane Inputs, the Tracking Table, and the Action Schedule with the Valve
Drive behind it. In which order they take it is open (R62, R99, R110; log 4). -/
def State.handUpdate (s : State) (kind : UpdateKind) : State :=
  let u := s.belt.update kind
  let q := s.choose 6
  match q.1 with
  | 0 => ((q.2.lanesUpdate u).tableUpdate u).driveUpdate u
  | 1 => ((q.2.lanesUpdate u).driveUpdate u).tableUpdate u
  | 2 => ((q.2.tableUpdate u).lanesUpdate u).driveUpdate u
  | 3 => ((q.2.tableUpdate u).driveUpdate u).lanesUpdate u
  | 4 => ((q.2.driveUpdate u).lanesUpdate u).tableUpdate u
  | _ => ((q.2.driveUpdate u).tableUpdate u).lanesUpdate u

/-- Write the belt. -/
def State.putBelt (s : State) (b : Belt) : State := { s with belt := b }

/-- The source changes are handed, if there is one (R26). -/
def State.handSourceFrom (s : State) (old : SourceKind) : State :=
  if s.belt.source.kind = old then s else s.handSource

/-- One encoder count: position, accumulator, history, source; then source change, motion change, update (R12, R17). That a
source change without a motion change, too, is handed before the update of its count is the model's choice (log 32). -/
def State.countEncoder (s : State) (d : Dir) : State :=
  (((s.putBelt (s.belt.encoderCount d s.now)).handSourceFrom s.belt.source.kind).handMotion
    s.belt.motion).handUpdate .encoder

/-- One generated count (R21, R27). -/
def State.countGenerated (s : State) (kind : UpdateKind) : State :=
  ((s.putBelt s.belt.generatedCount).handMotion s.belt.motion).handUpdate kind

/-! ### Entering STOPPED and LOST (R16, R20 to R25) -/

/-- The belt entering STOPPED (R16, R18). -/
def Belt.stop (b : Belt) : Belt :=
  if b.motion = .stopped then { b with stopTimer := none }
  else { b with motion := .stopped, acc := 0, history := [], last := none, stopTimer := none }

/-- The belt entering LOST: held, STOPPED, generator and timers stopped (R20, R22, R24). -/
def Belt.lose (b : Belt) : Belt :=
  { b.stop with source := .lost, gen := none, lossTimer := none, limitTimer := none,
                limitExpired := false, history := [], last := none, frozen := 0 }

/-- Enter LOST with a cause: source change first, motion change second (R17, R26). -/
def State.enterLost (s : State) (cause : LostCause) : State :=
  ((s.putBelt s.belt.lose).handLost cause).handMotion s.belt.motion

/-- The belt entering ESTIMATE from ENCODER (R21). -/
def Belt.estimate (b : Belt) : Belt :=
  { b with source := .estimate, frozen := b.speed, gen := some 0, history := [], last := none,
           limitTimer := some 0, limitExpired := false, lossTimer := none, stopTimer := none }

/-- The belt returning to ESTIMATE from CONFIRMING (R24). -/
def Belt.estimateAgain (b : Belt) : Belt :=
  { b with source := .estimate, gen := some 0, history := [], last := none, stopTimer := none }

/-! ### Timer expiries -/

/-- The stop timer reaches the stop time (R16). -/
def State.stopExpiry (s : State) : State :=
  match s.belt.stopTimer with
  | some _ => (s.putBelt s.belt.stop).handMotion s.belt.motion
  | none => s

/-- The loss timer reaches the loss time: ENC_LOST, then ESTIMATE or LOST (R20, R21, R26). -/
def State.lossExpiry (s : State) : State :=
  match s.belt.lossTimer with
  | some _ =>
    if s.belt.motion = .forward ∧ 0 < s.belt.speed then
      ((s.putBelt s.belt.estimate).occur .encLost).handSource
    else (s.occur .encLost).enterLost .loss
  | none => s

/-- The limit timer reaches the estimate limit: LOST from ESTIMATE, the expired mark in CONFIRMING (R22, R23). -/
def State.limitExpiry (s : State) : State :=
  match s.belt.limitTimer with
  | some _ =>
    match s.belt.source with
    | .estimate => s.enterLost .limit
    | .confirming _ => s.putBelt { s.belt with limitTimer := none, limitExpired := true }
    | .encoder => s
    | .timed => s
    | .lost => s
  | none => s

/-- A CONFIRMING begun in LOST fails: with the restart mark set and RUN active, SILENCE is handed together with the
return to LOST (R24, R25). That this SILENCE clears the restart mark, as the silence timer's does, is the model's choice
(log 33). -/
def State.gapFromLost (s : State) : State :=
  if s.belt.restart ∧ s.belt.run then
    ((s.putBelt { s.belt.lose with restart := false }).handLostAndSilence .gap).handMotion s.belt.motion
  else s.enterLost .gap

/-- The time since the last count in CONFIRMING exceeds the loss time (R24). -/
def Belt.gapOver (b : Belt) : Bool :=
  match b.source with
  | .confirming c => b.par.lossTime * 1000 < c.gap
  | _ => false

/-- The time since the last count exceeds the loss time in CONFIRMING (R24). -/
def State.gapExpiry (s : State) : State :=
  match s.belt.source with
  | .confirming c =>
    match c.origin with
    | .lost => s.gapFromLost
    | .estimate =>
      if s.belt.limitExpired then s.enterLost .limit
      else if s.belt.motion = .forward then (s.putBelt s.belt.estimateAgain).handSource
      else s.enterLost .loss
  | .encoder => s
  | .timed => s
  | .estimate => s
  | .lost => s

/-- The silence timer reaches the loss time: SILENCE, and the restart mark is cleared (R25). -/
def State.silenceExpiry (s : State) : State :=
  match s.belt.silenceTimer with
  | some _ => (s.putBelt { s.belt with silenceTimer := none, restart := false }).takeSilence
  | none => s

/-! ### Counts as they come, and encoder samples (R7, R8, R23) -/

/-- An encoder count as it comes: only one within the loss time after the count before it raises the confirmation count,
so a CONFIRMING whose last count lies further back has failed before this one is taken (R23, R24; log 20). -/
def State.takeCount (s : State) (d : Dir) : State :=
  (if s.belt.gapOver then s.gapExpiry else s).countEncoder d

/-- The pair after one in the forward order (R7). -/
def EncPair.next (p : EncPair) : EncPair :=
  match p.a, p.b with
  | .low, .low => ⟨.high, .low⟩
  | .high, .low => ⟨.high, .high⟩
  | .high, .high => ⟨.low, .high⟩
  | .low, .high => ⟨.low, .low⟩

/-- The new pair becomes the reference (R7, R8). -/
def State.putReference (s : State) (p : EncPair) : State :=
  { s with belt := { s.belt with encRef := some p }, pins := { s.pins with enc := p } }

/-- One sample of ENC_A and ENC_B in the present mode (R7, R8, R9). -/
def State.sampleEncoder (s : State) (p : EncPair) : State :=
  match s.belt.par.mode with
  | .timed => { s with pins := { s.pins with enc := p } }
  | .quadrature =>
    match s.belt.encRef with
    | none => s.putReference p
    | some r =>
      if p = r then s.putReference p
      else if p = r.next then (s.putReference p).takeCount .forward
      else if r = p.next then (s.putReference p).takeCount .reverse
      else (s.putReference p).occur .encPhase
  | .pulseDir =>
    match s.belt.encRef with
    | none => s.putReference p
    | some r =>
      if r.a = .low ∧ p.a = .high then
        (s.putReference p).takeCount (if p.b = .low then .forward else .reverse)
      else s.putReference p

/-! ### The step generator (R9, R21, R27) -/

/-- The generator's fraction passes its modulus: 1,000,000 is taken from it (R9). -/
def Belt.generated (b : Belt) : Belt := { b with gen := b.gen.map (fun f => f - Config.genModulus) }

/-- A timed step (R27). -/
def State.stepTimed (s : State) : State :=
  match s.belt.source, s.belt.gen with
  | .timed, some _ => (s.putBelt s.belt.generated).countGenerated .timed
  | _, _ => s

/-- An estimated step (R21). -/
def State.stepEstimated (s : State) : State :=
  match s.belt.source, s.belt.gen with
  | .estimate, some _ => (s.putBelt s.belt.generated).countGenerated .estimated
  | _, _ => s

/-! ### RUN (R10) -/

/-- The filtered level read through the polarity (R10). -/
def Belt.runLevel (b : Belt) : Bool :=
  match b.par.polarity with
  | .activeHigh => b.runFiltered == .high
  | .activeLow => b.runFiltered == .low

/-- RUN becomes active (R9, R16, R20, R25). -/
def Belt.runOn (b : Belt) : Belt :=
  let b1 := { b with run := true, stopTimer := none }
  match b.source with
  | .encoder => { b1 with lossTimer := some 0 }
  | .timed => { b1 with gen := some 0 }
  | .estimate => b1
  | .confirming c => match c.origin with
    | .lost => { b1 with restart := true }
    | .estimate => b1
  | .lost => { b1 with restart := true, silenceTimer := some 0 }

/-- RUN becomes inactive, as far as the belt alone (R16, R20, R25). -/
def Belt.runOff (b : Belt) : Belt :=
  { b with run := false, restart := false, silenceTimer := none, lossTimer := none }

/-- A change of RUN between active and inactive acts on motion, generator, timers and source (R10). -/
def State.syncRun (s : State) : State :=
  if s.belt.runLevel = s.belt.run then s
  else if s.belt.runLevel then s.putBelt s.belt.runOn
  else
    let s1 := s.putBelt s.belt.runOff
    match s.belt.source with
    | .encoder => s1.putBelt s1.belt.restartStop
    | .timed => (s1.putBelt { s1.belt.stop with gen := none }).handMotion s.belt.motion
    | .estimate => s1.enterLost .runOff
    | .confirming _ => s1.enterLost .runOff
    | .lost => s1

/-- The RUN pin has held a level for the filter time (R10). -/
def State.runFilterExpiry (s : State) (level : Level) : State :=
  ({ s with belt := { s.belt with runFiltered := level, runTimer := 0 },
            pins := { s.pins with run := level } }).syncRun

/-! ### Microseconds against a limit in milliseconds -/

/-- A running timer has reached a time in ms. -/
def timerAt (t : Option Nat) (ms : Nat) : Bool :=
  match t with
  | some e => ms * 1000 ≤ e
  | none => false

/-! ### SET_LINE and SET_POSITION (R4, R5, R13) -/

/-- What SET_LINE may bring about at once in the same encoder mode (R4). -/
inductive LineEffect where
  | run | stop | loss | limit | gap | silence
  deriving DecidableEq, Repr

/-- All of them. -/
def LineEffect.all : List LineEffect := [.run, .stop, .loss, .limit, .gap, .silence]

/-- The effect is due under the parameters in force (R4). -/
def LineEffect.due (s : State) : LineEffect → Bool
  | .run => s.belt.runLevel != s.belt.run
  | .stop => timerAt s.belt.stopTimer s.belt.par.stopTime
  | .loss => timerAt s.belt.lossTimer s.belt.par.lossTime
  | .limit => timerAt s.belt.limitTimer s.belt.par.estimateLimit
  | .gap => s.belt.gapOver
  | .silence => timerAt s.belt.silenceTimer s.belt.par.lossTime

/-- The effect. -/
def LineEffect.fire (s : State) : LineEffect → State
  | .run => s.syncRun
  | .stop => s.stopExpiry
  | .loss => s.lossExpiry
  | .limit => s.limitExpiry
  | .gap => s.gapExpiry
  | .silence => s.silenceExpiry

/-- Fire an effect if it is still due when its turn comes. -/
def LineEffect.fireIfDue (s : State) (e : LineEffect) : State := if e.due s then e.fire s else s

/-- An accepted SET_LINE in the same encoder mode: accumulator 0, the new polarity and the new times act at once; the
order of effects due together is open (R4, log 4). -/
def State.lineSameMode (s : State) (p : LineParams) : State :=
  let s1 := s.putBelt { s.belt with par := p, acc := 0 }
  let q := s1.settle (LineEffect.all.filter (LineEffect.due s1))
  q.1.foldl LineEffect.fireIfDue q.2

/-- The belt after an accepted SET_LINE that changes the encoder mode (R5). -/
def Belt.changeMode (b : Belt) (p : LineParams) : Belt :=
  let b1 := { b with par := p }
  let run := b1.runLevel
  { b1 with
    run := run, motion := .stopped, acc := 0, frozen := 0, history := [], last := none, encRef := none,
    stopTimer := none, limitTimer := none, limitExpired := false, silenceTimer := none, restart := false,
    source := if p.mode = .timed then .timed else .encoder,
    gen := if p.mode = .timed && run then some 0 else none,
    lossTimer := if p.mode != .timed && run then some 0 else none }

/-- An accepted SET_LINE that changes the encoder mode: source change, then motion change (R5, R17, R26). -/
def State.lineNewMode (s : State) (p : LineParams) : State :=
  ((s.putBelt (s.belt.changeMode p)).handSourceFrom s.belt.source.kind).handMotion s.belt.motion

/-- An accepted SET_LINE; its PWM period is handed to the Valve Drive (R4, R5, R124). -/
def State.applyLine (s : State) (p : LineParams) : State :=
  (if p.mode = s.belt.par.mode then s.lineSameMode p else s.lineNewMode p).restartPwm p.pwmPeriod

/-- An accepted SET_POSITION: one update of kind SET (R13). -/
def State.applyPosition (s : State) (p : Pos) : State :=
  (s.putBelt { s.belt with position := p }).handUpdate .set

end Sys2Proof.Machine
end

