-- ==== Sys2Proof/Machine/Requests.lean ====
section
/-! DEFINITION. The twenty requests: what each owner checks and does when the Link Port hands it a payload of the right
size, and the payload of the reply it makes (chapters 1 to 8, layouts of section 9.5). -/

namespace Sys2Proof.Machine

/-- What executing a request gives: the part afterwards, the reply's payload, and what follows the reply (R168). -/
structure Answer where
  state : State
  body : List Byte
  after : AfterFrame

/-- A reply that carries its result byte alone (R182). -/
def resultBody (r : Result) : List Byte := put8 r.code

/-- A refusal: the result byte alone, and nothing changes (R182). -/
def State.refuse (s : State) (r : Result) : Answer := ⟨s, resultBody r, .nothing⟩

/-- OK with no other data. -/
def State.accept (s : State) : Answer := ⟨s, resultBody .ok, .nothing⟩

/-- OK with the fields of the reply's table. -/
def State.answer (s : State) (fields : List Byte) : Answer := ⟨s, resultBody .ok ++ fields, .nothing⟩

/-! ### Link Port (R176, R163, R173, R177) -/

/-- IDENT's fields (Table 9-14). -/
def identFields : List Byte :=
  [0x4A, 0x4F, 0x4C, 0x53, 0x54, 0x41, 0x4E, 0x00, 0x54, 0x53, 0x31, 0x36, 0x30, 0x38, 0x00, 0x00] ++
    put8 2 ++ put8 Config.maxRecords ++ put8 Config.maxSlots ++ put8 16 ++ put8 8

/-- IDENT (R176). -/
def runIdent (s : State) : Answer := s.answer identFields

/-- SET_LINK: the new settings are stored with the reply (R163). -/
def runSetLink (p : List Byte) (s : State) : Answer :=
  match parseLink p with
  | some l => ⟨s, resultBody .ok, .settings l⟩
  | none => s.refuse .badValue

/-- SET_NOTICES: the mask takes effect at execution (R173). -/
def runSetNotices (p : List Byte) (s : State) : Answer :=
  { s with link := { s.link with mask := byteAt p 0 } }.answer [byteAt p 0]

/-- RESET: reply OK, hold mark set (R177). -/
def runReset (s : State) : Answer :=
  ⟨{ s with link := { s.link with hold := true } }, resultBody .ok, .reset⟩

/-! ### Line Controller (R144, R146, R156, R158) -/

/-- The STATUS fields (Table 9-15). -/
def State.statusFields (s : State) : List Byte :=
  put8 s.ctrl.line.code ++ put8 s.ctrl.line.causeCode ++ put8 s.belt.source.kind.code ++
    put8 s.ctrl.motion.code ++ putWord s.belt.position ++ put32 s.belt.speed ++ put8 s.rail.state.code ++
    putHalf s.ctrl.flagSet ++ putHalf s.ctrl.markSet ++ put8 s.table.records.length ++
    put8 (Config.maxSlots - s.slotsInUse) ++ put8 s.link.notices.length ++ put8 s.ctrl.resetCause.code

/-- STATUS: the snapshot, then the reported mark of every set flag (R158). -/
def runStatus (s : State) : Answer :=
  (FaultFlag.all.foldl State.markFlag s).answer s.statusFields

/-- The flags a flag set names (Table 9-6). -/
def namedFlags (set : Half) : List FaultFlag := FaultFlag.all.filter (fun f => set.getLsbD f.number.val)

/-- The flag set names something other than the eleven flags (R156, R181). -/
def namesOther (set : Half) : Bool := set &&& 0xF800 != 0

/-- CLEAR_FAULTS (R156). -/
def runClearFaults (p : List Byte) (s : State) : Answer :=
  if namesOther (half p 0) then s.refuse .badValue
  else
    let s1 := (namedFlags (half p 0)).foldl State.clearFlag s
    s1.answer (putHalf s1.ctrl.flagSet ++ putHalf s1.ctrl.markSet)

/-- The lanes that are enabled. -/
def State.enabledLanes (s : State) : List (Fin 8) := allLanes.filter (fun l => (s.lane l).cfg.enabled)

/-- ARM: line CONFIG, source not LOST, a lane enabled (R144, R145). -/
def runArm (s : State) : Answer :=
  if s.ctrl.line ≠ .config then s.refuse .state
  else if s.belt.source.kind = .lost then s.refuse .state
  else if s.enabledLanes.isEmpty then s.refuse .badValue
  else s.armLine.answer (put8 s.enabledLanes.length ++
    put8 (s.enabledLanes.filter (fun l => (s.lane l).eyePresent)).length)

/-- DISARM (R146). -/
def runDisarm (s : State) : Answer :=
  if s.ctrl.line = .config then s.answer (put8 0 ++ put8 0)
  else s.disarmLine.answer (put8 s.table.records.length ++ put8 s.slotsInUse)

/-! ### Belt Position Unit (R3, R13) -/

/-- SET_LINE: line state first, then the ranges (R3). -/
def runSetLine (p : List Byte) (s : State) : Answer :=
  if s.ctrl.line ≠ .config then s.refuse .state
  else match parseLine p with
    | some q => (s.applyLine q).accept
    | none => s.refuse .badValue

/-- SET_POSITION (R13). -/
def runSetPosition (p : List Byte) (s : State) : Answer :=
  if s.ctrl.line ≠ .config then s.refuse .state
  else (s.applyPosition (word p 0)).accept

/-! ### Lane Inputs (R29) -/

/-- SET_LANE: accepted in every line state (R29). -/
def runSetLane (p : List Byte) (s : State) : Answer :=
  match parseLane p with
  | some (l, q) => (s.applyLane l q).accept
  | none => s.refuse .badValue

/-! ### Tracking Table (R70, R74, R84) -/

/-- A VERDICT reply: result, slots in use, target index or 0xFF (R81, R182). -/
def State.verdictBody (s : State) (r : Result) (index : Option Nat) : List Byte :=
  put8 r.code ++ put8 s.slotsInUse ++ put8 (index.getD 255)

/-- A refused VERDICT changes nothing (R74). -/
def State.refuseVerdict (s : State) (r : Result) (index : Option Nat) : Answer :=
  ⟨s, s.verdictBody r index, .nothing⟩

/-- The index of the first element that fails a check (R74). -/
def firstFailing {α : Type} (ok : α → Bool) (xs : List α) : Option Nat := xs.findIdx? (fun x => !ok x)

/-- An accepted VERDICT: the schedule as placed, the record DECIDED with PENDING targets (R80). -/
def State.decide (s : State) (tag : Nat) (c : Closing) (how : Decision) (ps : List Placed) : State :=
  s.updateRecord tag (fun r => { r with progress := .decided c how (ps.map (Placed.entry .pending)) })

/-- Steps 5 to 9 of a VERDICT whose targets are in range, for an AWAITING record (Table 4-2, R76 to R80). -/
def State.takeTargets (s : State) (r : ItemRecord) (c : Closing) (ts : List Target) : Answer :=
  let ps := ts.map (s.place r c)
  match firstFailing (fun p => r.snapshot.valveSet.getLsbD p.valve.val && s.drivable p.valve) ps with
  | some k => s.refuseVerdict .badValue (some k)
  | none =>
    match firstFailing (fun p => !s.isDisabled p.valve) ps with
    | some k => s.refuseVerdict .valveDisabled (some k)
    | none =>
      match firstFailing (Placed.ordered c.exitAt) ps with
      | some k => s.refuseVerdict .badValue (some k)
      | none =>
        match firstFailing (fun p => !reached s.table.position p.openAt) ps with
        | some k => s.refuseVerdict .late (some k)
        | none =>
          match s.admission r.tag ps with
          | .conflict => s.refuseVerdict .conflict none
          | .noRoom => s.refuseVerdict .noRoom none
          | .admitted c' =>
            let s1 := ({ s with sched := c' }).decide r.tag c .verdict ps
            ⟨s1, s1.verdictBody .ok none, .nothing⟩

/-- Step 4 of a VERDICT and what follows it: the count, then every field of every used target (R71, R76). -/
def State.takeVerdict (s : State) (r : ItemRecord) (c : Closing) (p : List Byte) : Answer :=
  if 4 < num8 p 2 then s.refuseVerdict .badValue none
  else
    let places := targetPlaces p 3 (num8 p 2)
    match firstFailing (fun t => t.target?.isSome) places with
    | some k => s.refuseVerdict .badValue (some k)
    | none => s.takeTargets r c (places.filterMap TargetPlace.target?)

/-- VERDICT: the checks of Table 4-2 in order (R74, R75). -/
def runVerdict (p : List Byte) (s : State) : Answer :=
  if s.ctrl.line ≠ .armed then s.refuseVerdict .state none
  else match s.record? (num16 p 0) with
    | none => s.refuseVerdict .unknownItem none
    | some r =>
      match r.progress with
      | .entering => s.refuseVerdict .state none
      | .decided _ _ _ => s.refuseVerdict .state none
      | .defaulted _ _ => s.refuseVerdict .late none
      | .awaiting c => s.takeVerdict r c p

/-- A CANCEL reply: result, cancelled, running, slots in use (R89). -/
def State.cancelBody (s : State) (r : Result) (cancelled running : Nat) : List Byte :=
  put8 r.code ++ put8 cancelled ++ put8 running ++ put8 s.slotsInUse

/-- A refused CANCEL changes nothing (R84, R89). -/
def State.refuseCancel (s : State) (r : Result) : Answer := ⟨s, s.cancelBody r 0 0, .nothing⟩

/-- CANCEL on a DECIDED or DEFAULTED record (R86, R87, R109). -/
def State.withdraw (s : State) (tag : Nat) : Answer :=
  let s1 := s.cancelRemoval tag
  ⟨s1, s1.cancelBody .ok (s.cancelCount tag) (s.runningCount tag), .nothing⟩

/-- CANCEL (R84 to R86). -/
def runCancel (p : List Byte) (s : State) : Answer :=
  if s.ctrl.line ≠ .armed then s.refuseCancel .state
  else match s.record? (num16 p 0) with
    | none => s.refuseCancel .unknownItem
    | some r =>
      match r.progress with
      | .entering => s.refuseCancel .state
      | .awaiting c =>
        let s1 := s.decide r.tag c .cancel []
        ⟨s1, s1.cancelBody .ok 0 0, .nothing⟩
      | .decided _ _ _ => s.withdraw r.tag
      | .defaulted _ _ => s.withdraw r.tag

/-- One target entry of the QUERY_ITEM reply (Table 9-17). -/
def RecordTarget.entryBytes (t : RecordTarget) : List Byte :=
  put8 t.valve.val ++ putWord t.openAt ++ putWord t.closeAt ++ put8 t.outcome.code

/-- The QUERY_ITEM fields (Table 9-16). -/
def ItemRecord.queryFields (r : ItemRecord) (index : Nat) : List Byte :=
  put16 r.tag ++ put8 r.lane.val ++ put8 r.progress.code ++ put8 index ++ putWord r.leading ++
    putWord r.horizon ++ putWord ((r.progress.closing?.map Closing.trailing).getD 0) ++
    put16 ((r.progress.closing?.map Closing.length).getD 0) ++
    putWord ((r.progress.closing?.map Closing.exitAt).getD 0) ++
    put8 (itemMarks r.estimated r.blocked) ++ put32 r.snapshot.eyeOffset ++ putHalf r.snapshot.valveSet ++
    put8 (defaultKindCode (!r.snapshot.default.isEmpty)) ++ put8 r.snapshot.default.length ++
    put8 r.progress.decisionCode ++ put8 r.progress.targets.length ++
    padTo 40 (r.progress.targets.flatMap RecordTarget.entryBytes)

/-- QUERY_ITEM (R70). The entry index counts from 1, the oldest. -/
def runQueryItem (p : List Byte) (s : State) : Answer :=
  if num16 p 0 = 0 then s.refuse .badValue
  else match s.record? (num16 p 0) with
    | none => s.refuse .unknownItem
    | some r => s.answer (r.queryFields (s.table.records.findIdx (fun q => q.tag == num16 p 0) + 1))

/-! ### Valve Drive (R114, R123, R133, R134, R136, R141) -/

/-- The valve may be configured now: any state in CONFIG, else IDLE or DISABLED with an empty queue (R114 step 2). -/
def State.configurable (s : State) (v : Fin 16) : Bool :=
  s.ctrl.line == .config ||
    (((s.valve v).state == .idle || (s.valve v).state == .disabled) && (s.queue v).isEmpty)

/-- SET_VALVE (R114). -/
def runSetValve (p : List Byte) (s : State) : Answer :=
  match valveOf? (num8 p 0) with
  | none => s.refuse .badValue
  | some v =>
    if !s.configurable v then s.refuse .busy
    else match parseValve p with
      | some q => (s.applyValve v q).accept
      | none => s.refuse .badValue

/-- SET_HOLD (R123). -/
def runSetHold (p : List Byte) (s : State) : Answer :=
  match valveOf? (num8 p 0) with
  | none => s.refuse .badValue
  | some v =>
    if 64 < num8 p 1 then s.refuse .badValue
    else (s.putValve v { s.valve v with pendingDuty := num8 p 1 }).accept

/-- TEST_FIRE: the checks in order (R136). -/
def runTestFire (p : List Byte) (s : State) : Answer :=
  match s.ctrl.line with
  | .halted _ => s.refuse .state
  | _ =>
    match valveOf? (num8 p 0) with
    | none => s.refuse .badValue
    | some v =>
      if num16 p 1 = 0 ∨ (s.valve v).cfg.maxOpen < num16 p 1 then s.refuse .badValue
      else if (s.valve v).cfg.mode = .off then s.refuse .badValue
      else if s.drive.rail = .low then s.refuse .state
      else if (s.valve v).state ≠ .idle ∨ ¬ (s.queue v).isEmpty then s.refuse .busy
      else (s.startTest v (num16 p 1)).accept

/-- ENABLE_VALVE: the reply carries the state before the request (R134). -/
def runEnableValve (p : List Byte) (s : State) : Answer :=
  match valveOf? (num8 p 0) with
  | none => s.refuse .badValue
  | some v => (s.enableValve v).answer (put8 (s.valve v).state.code)

/-- DISABLE_VALVE: the reply carries the contributions cut and missed; 0 and 0 if already DISABLED (R133). -/
def runDisableValve (p : List Byte) (s : State) : Answer :=
  match valveOf? (num8 p 0) with
  | none => s.refuse .badValue
  | some v =>
    if (s.valve v).state = .disabled then s.answer (put8 0 ++ put16 0)
    else (s.disableValve v).answer
      (put8 (openContribs (s.queue v)).length ++ put16 (queuedContribs (s.queue v)).length)

/-- One contribution of a head action place (Table 9-19). -/
def Contribution.bytes (c : Contribution) : List Byte :=
  put16 c.tag ++ put8 c.index ++ put8 c.phase.outcome.code

/-- One head action place (Table 9-19). -/
def Action.bytes (a : Action) : List Byte :=
  padTo 26 (put8 a.state.code ++ putWord a.openAt ++ putWord a.closeAt ++ put8 a.contribs.length ++
    a.contribs.flatMap Contribution.bytes)

/-- The QUERY_VALVE fields (Table 9-18). -/
def State.valveFields (s : State) (v : Fin 16) : List Byte :=
  let x := s.valve v
  put8 v.val ++ put8 x.state.code ++ put8 x.state.phaseCode ++ put16 x.state.testDuration ++
    put8 x.cfg.mode.code ++ put32 x.active ++ put8 x.duty ++ put8 x.pendingDuty ++
    put16 (s.advance v).openBy ++ put16 (s.advance v).closeBy ++ put8 (s.queue v).length ++
    put8 (min (s.queue v).length 4) ++ padTo 104 (((s.queue v).take 4).flatMap Action.bytes)

/-- QUERY_VALVE (R141). -/
def runQueryValve (p : List Byte) (s : State) : Answer :=
  match valveOf? (num8 p 0) with
  | none => s.refuse .badValue
  | some v => s.answer (s.valveFields v)

/-! ### Handing a request to its owner (Table 8-4) -/

/-- The owner of a request takes its payload (R169). -/
def handRequest (k : RequestKind) (p : List Byte) (s : State) : Answer :=
  match k with
  | .ident => runIdent s
  | .status => runStatus s
  | .clearFaults => runClearFaults p s
  | .setLink => runSetLink p s
  | .setNotices => runSetNotices p s
  | .reset => runReset s
  | .setLine => runSetLine p s
  | .setLane => runSetLane p s
  | .setValve => runSetValve p s
  | .setHold => runSetHold p s
  | .setPosition => runSetPosition p s
  | .arm => runArm s
  | .disarm => runDisarm s
  | .verdict => runVerdict p s
  | .cancel => runCancel p s
  | .queryItem => runQueryItem p s
  | .queryValve => runQueryValve p s
  | .testFire => runTestFire p s
  | .enableValve => runEnableValve p s
  | .disableValve => runDisableValve p s

end Sys2Proof.Machine
end

