-- ==== Sys2Proof/Machine/LinkPort.lean ====
section
/-! DEFINITION. The Link Port (chapter 8): the receiver, the receive queue, the execution of requests, the
transmitter, and the three resets. -/

namespace Sys2Proof.Machine

/-! ### Executing requests (R168, R169) -/

/-- The kind of the reply to a request kind: 128 added, modulo 256 (R169). -/
def replyKind (k : Byte) : Byte := k + 0x80

/-- The answer to one request frame: kind, then payload size, then its owner (R169). -/
def answerFrame (f : Frame) (s : State) : Answer :=
  match RequestKind.ofCode? f.kind with
  | none => s.refuse .unknownKind
  | some k => if f.payload.length = k.size then handRequest k f.payload s else s.refuse .badLength

/-- The reply of an answer: the request's tag unchanged (R169, R170). -/
def Answer.reply (a : Answer) (f : Frame) : Reply := ⟨⟨replyKind f.kind, f.tag, a.body⟩, a.after⟩

/-- Execute one request: its reply fills the reply slot (R168). The notices that the request offers, LINE_STATE of ARM and
DISARM among them, are offered with the slot still empty, and the reply fills it behind them (model's choice, log 31:
R145 and R146 do not say whether the reply stands there already). -/
def State.execute (s : State) (f : Frame) : State :=
  let a := answerFrame f s
  { a.state with link := { a.state.link with slot := some (a.reply f) } }

/-- The oldest queued request is executed when the reply slot is empty and the hold mark is clear (R168). -/
def State.executeOldest (s : State) : State :=
  match s.link.queue, s.link.slot, s.link.hold with
  | f :: fs, none, false => ({ s with link := { s.link with queue := fs } }).execute f
  | _, _, _ => s

/-- A complete frame is offered to the receive queue: queued, or discarded with LINK_OVERRUN (R167). -/
def State.offerFrame (s : State) (f : Frame) : State :=
  if s.link.queue.length < Config.maxRequests then
    { s with link := { s.link with queue := s.link.queue ++ [f] } }
  else s.occur .linkOverrun

/-- A complete request frame reaches the Link Port and is executed as soon as R168 allows (R167, R168; log 1). -/
def State.acceptFrame (s : State) (f : Frame) : State := (s.offerFrame f).executeOldest

/-! ### The receiver (R164 to R166) -/

/-- Write the receiver. -/
def State.putRx (s : State) (r : Receiver) : State := { s with link := { s.link with rx := r } }

/-- FRAME_ERROR: the frame in progress is dropped, LINK_ERROR occurs, QUIET (R166). -/
def State.frameFailed (s : State) : State := (s.putRx (.quiet 0)).occur .linkError

/-- A parity bit that does not match its data bits; with parity NONE no character has a parity error (R162). -/
def Parity.mismatch (p : Parity) (b : Byte) (bit : Level) : Bool :=
  match p.bit b with
  | some expected => bit != expected
  | Option.none => false

/-- The character has a parity error or a framing error under the settings in force (R162). -/
def Link.charError (l : Link) (b : Byte) (bit : Level) (stop : StopBit) : Bool :=
  l.settings.parity.mismatch b bit || stop != .high

/-- RXD behind the stop bit: high and idle, or held low (R162, R166; log 11). -/
def lineBehind : StopBit → RxLine
  | .high => .idle
  | .low 0 => .idle
  | .low (n + 1) => .low (n + 1)

/-- The length a frame in progress announces is out of range (R165). -/
def badLength (n : Nat) : Bool := n < 2 || 202 < n

/-- What the bytes after the start mark amount to (R165). -/
inductive Progressed where
  | more
  | complete (f : Frame)
  | wrong
  deriving DecidableEq, Repr

/-- The frame that a length byte and the bytes behind it hold, check value left off (Table 9-1). -/
def frameOf (n : Nat) (body : List Byte) : Frame :=
  ⟨body.getD 0 0, body.getD 1 0, (body.drop 2).take (n - 2)⟩

/-- Judge the bytes received after the start mark: a length out of range is wrong at once; with the length plus two
further characters there, the CRC decides (R165, R180). -/
def judge (got : List Byte) : Progressed :=
  match got with
  | [] => .more
  | len :: body =>
    if badLength len.toNat then .wrong
    else if body.length < len.toNat + 2 then .more
    else if crc16 (len :: body.take len.toNat) = half body len.toNat then .complete (frameOf len.toNat body)
    else .wrong

/-- A character without error in RECEIVE (R165). -/
def State.collect (s : State) (got : List Byte) : State :=
  match judge got with
  | .more => s.putRx (.receive got 0)
  | .complete f => (s.putRx .hunt).acceptFrame f
  | .wrong => s.frameFailed

/-- A character arrives (R164 to R166): HUNT looks for a start mark, RECEIVE collects, QUIET ignores and restarts its
idle timer. -/
def State.receive (s : State) (b : Byte) (bit : Level) (stop : StopBit) : State :=
  let s1 := { s with pins := { s.pins with rxd := lineBehind stop } }
  match s1.link.rx with
  | .hunt => if !s1.link.charError b bit stop && b == startMark then s1.putRx (.receive [] 0) else s1
  | .receive got _ => if s1.link.charError b bit stop then s1.frameFailed else s1.collect (got ++ [b])
  | .quiet _ => s1.putRx (.quiet 0)

/-- More than 3 ms between characters of a frame: discarded with no flag, HUNT (R165). The command is taken at its word also
while a character is in progress and the gap timer stands still (model's choice, log 34). -/
def State.gapTimerExpired (s : State) : State :=
  match s.link.rx with
  | .receive _ _ => s.putRx .hunt
  | .hunt => s
  | .quiet _ => s

/-- An idle line for 3 ms in QUIET: HUNT. The idle timer runs only while RXD is high with no character in progress, so a
break keeps QUIET (R166). -/
def State.idleTimerExpired (s : State) : State :=
  match s.link.rx, s.pins.rxd with
  | .quiet _, .idle => s.putRx .hunt
  | _, _ => s

/-! ### Resets (R2, R28, R33, R51, R90, R116, R143, R151, R154, R161, R178) -/

/-- Every block takes its reset state and LINE_EVENT RESTART is the only notice queued. The input pins, the time base
and the commands waiting are not the part's to reset (log 6, 10, 15). -/
def State.resetPart (s : State) (cause : ResetCause) (settings : LinkSettings) : State :=
  { belt := .reset, lanes := .reset s.pins.eyes, table := .reset, sched := .reset, drive := .reset,
    rail := .reset, ctrl := .reset cause, link := .reset settings cause,
    pins := s.pins, now := s.now, order := s.order, pending := s.pending }

/-! ### The transmitter (R174, R175) -/

/-- The arbiter has something to choose: the transmitter is free and a reply or a notice waits (R174). -/
def Link.canStart (l : Link) : Bool :=
  match l.tx with
  | .free => l.slot.isSome || !l.notices.isEmpty
  | .sending _ _ _ => false

/-- TRANSMIT_START: a free transmitter begins the reply, else the oldest notice; the frame leaves its store, and an
emptied reply slot lets the next request execute at once (R168, R174, R175). -/
def State.transmitBegins (s : State) : State :=
  match s.link.tx with
  | .sending _ _ _ => s
  | .free =>
    match s.link.slot with
    | some r =>
      ({ s with link := { s.link with slot := none, tx := .sending r.frame.bytes r.after 0 } }).executeOldest
    | none => { s with link := s.link.beginNotice }

/-- TRANSMIT_END: the transmitter is free; a SET_LINK reply's settings come into force and the receiver enters QUIET; a
RESET reply leads to the request reset, which keeps the link settings (R163, R175, R177). The idle timer starts from 0 at
that entry into QUIET, also in a receiver that stands in QUIET already (log 29). -/
def State.transmitEnds (s : State) : State :=
  match s.link.tx with
  | .free => s
  | .sending _ after _ =>
    match after with
    | .nothing => { s with link := { s.link with tx := .free } }
    | .settings l => { s with link := { s.link with tx := .free, settings := l, rx := .quiet 0 } }
    | .reset => s.resetPart .request s.link.settings

/-- The frame on the line has been sent in full: its characters, back to back, at the settings in force (R162, R174;
log 12). -/
def Link.frameSent (l : Link) : Bool :=
  match l.tx with
  | .free => false
  | .sending bytes _ elapsed =>
    bytes.length * l.settings.parity.charBits * 1000000 ≤ elapsed * l.settings.baud.rate

/-- The level of TXD: high while the transmitter is free; while it sends, the bit of the frame's characters that the
elapsed time has come to, at the settings in force (R162, R175; log 12). -/
def Link.txd (l : Link) : Level :=
  match l.tx with
  | .free => .high
  | .sending bytes _ elapsed =>
    (bytes.flatMap l.settings.parity.character).getD (elapsed * l.settings.baud.rate / 1000000) .high

end Sys2Proof.Machine
end

