-- ==== Sys2Proof/Machine/Clock.lean ====
section
/-! DEFINITION. One microsecond of the time base (0.7): every running timer advances, the pins are sampled, and what is
then due happens. This is what a step does with no command waiting (log 3). -/

namespace Sys2Proof.Machine

/-! ### Timers advance -/

/-- A running timer advances by 1 µs. -/
def tickTimer (t : Option Nat) : Option Nat := t.map (fun e => e + 1)

/-- The rate of the running generator (R9). -/
def Belt.genRate (b : Belt) : Nat :=
  match b.source with
  | .timed => b.par.timedSpeed
  | .estimate => b.frozen
  | .encoder => 0
  | .confirming _ => 0
  | .lost => 0

/-- The µs since the last count advance in CONFIRMING (R24). -/
def Source.tick : Source → Source
  | .confirming c => .confirming { c with gap := c.gap + 1 }
  | .encoder => .encoder
  | .timed => .timed
  | .estimate => .estimate
  | .lost => .lost

/-- The Belt Position Unit's timers, its generator and its RUN filter (R9, R10, R16, R20, R21, R25). -/
def Belt.tick (b : Belt) (runPin : Level) : Belt :=
  { b with
    gen := b.gen.map (fun f => f + b.genRate),
    runTimer := if runPin = b.runFiltered then 0 else b.runTimer + 1,
    stopTimer := tickTimer b.stopTimer, lossTimer := tickTimer b.lossTimer,
    limitTimer := tickTimer b.limitTimer, silenceTimer := tickTimer b.silenceTimer,
    source := b.source.tick }

/-- The µs at which the active time of a valve ends its opening or its test: the max open time, or the test duration
(R126, R137). -/
def Valve.activeLimit (x : Valve) : Nat :=
  match x.state with
  | .test _ d => d * 1000
  | .idle => x.cfg.maxOpen * 1000
  | .pullIn => x.cfg.maxOpen * 1000
  | .hold => x.cfg.maxOpen * 1000
  | .disabled => x.cfg.maxOpen * 1000

/-- The next µs brings the active time of an active valve to its limit. -/
def Valve.atLimit (x : Valve) : Bool := x.isActive && x.activeLimit ≤ x.active + 1

/-- A valve's timers (R119, R125). The µs that brings the active time to its limit is left to `Due.activeEnd`: it is an
event of its own among the others of that µs (R128, R140). -/
def Valve.tick (x : Valve) : Valve :=
  { x with active := if x.isActive && !x.atLimit then x.active + 1 else x.active,
           pull := if x.pulling then x.pull + 1 else x.pull }

/-- One valve's timers advance. -/
def State.tickValve (s : State) (v : Fin 16) : State := s.putValve v (s.valve v).tick

/-- The rail deglitch timer (R151). -/
def Rail.tick (r : Rail) (vsns : Vsns) : Rail :=
  { r with timer := match r.state, vsns with
      | .normal, .below => r.timer + 1
      | .low, .above => r.timer + 1
      | _, _ => 0 }

/-- RXD held low comes nearer to its end. -/
def RxLine.tick : RxLine → RxLine
  | .idle => .idle
  | .busy => .busy
  | .low n => if n ≤ 1 then .idle else .low (n - 1)

/-- The receiver's gap and idle timers; neither runs while a character is in progress, and the idle timer stays at 0
while the line is held low (R165, R166). -/
def Receiver.tick (r : Receiver) (rxd : RxLine) : Receiver :=
  match r, rxd with
  | .receive got g, .idle => .receive got (g + 1)
  | .quiet i, .idle => .quiet (i + 1)
  | .quiet _, _ => .quiet 0
  | r, _ => r

/-- The transmitter's time. -/
def Transmitter.tick : Transmitter → Transmitter
  | .free => .free
  | .sending bytes after elapsed => .sending bytes after (elapsed + 1)

/-- Every timer of the part advances by 1 µs. -/
def State.advanceTime (s : State) : State :=
  allValves.foldl State.tickValve
    { s with now := s.now + 1, belt := s.belt.tick s.pins.run, rail := s.rail.tick s.pins.vsns,
             drive := { s.drive with base := (s.drive.base + 1) % s.drive.period },
             link := { s.link with rx := s.link.rx.tick s.pins.rxd, tx := s.link.tx.tick },
             pins := { s.pins with rxd := s.pins.rxd.tick } }

/-! ### What is due -/

/-- What can happen of itself at a microsecond. -/
inductive Due where
  | encoderSample
  | generatorStep
  | runFilter
  | line (e : LineEffect)
  | eyeSample (l : Fin 8)
  | debounce (l : Fin 8)
  | pullIn (v : Fin 16)
  | activeEnd (v : Fin 16) (active : Nat)
  | periodStart (v : Fin 16)
  | onTimeEnd (v : Fin 16)
  | railLow
  | railNormal
  | linkGap
  | linkIdle
  | transmitStart
  | transmitEnd
  deriving DecidableEq, Repr

/-- All of them, for the part as it stood before the microsecond. -/
def Due.all (s : State) : List Due :=
  [.encoderSample, .generatorStep, .runFilter, .line .stop, .line .loss, .line .limit, .line .gap,
   .line .silence] ++
  allLanes.map .eyeSample ++ allLanes.map .debounce ++
  allValves.map .pullIn ++
  (allValves.filter (fun v => (s.valve v).atLimit)).map (fun v => .activeEnd v (s.valve v).active) ++
  allValves.map .periodStart ++ allValves.map .onTimeEnd ++
  [.railLow, .railNormal, .linkGap, .linkIdle, .transmitStart, .transmitEnd]

/-- The candidate of a lane has held to its debounce time at this sample (R36). -/
def State.debounceDue (s : State) (l : Fin 8) : Bool :=
  match (s.lane l).candidate with
  | some c => s.eyePin l == c.level && c.start + c.debounce ≤ s.now
  | none => false

/-- The receiver's gap has exceeded 3 ms (R165). -/
def Receiver.gapOver : Receiver → Bool
  | .receive _ g => Config.linkSilence < g
  | .hunt => false
  | .quiet _ => false

/-- The receiver's idle timer has reached 3 ms (R166). -/
def Receiver.idleOver : Receiver → Bool
  | .quiet i => Config.linkSilence ≤ i
  | .hunt => false
  | .receive _ _ => false

/-- The thing is due: its timer has reached its value, its pin differs from the last sample, or the arbiter can
choose. -/
def Due.due (s : State) : Due → Bool
  | .encoderSample => s.belt.par.mode != .timed && s.belt.encRef != some s.pins.enc
  | .generatorStep => match s.belt.gen with
    | some f => Config.genModulus ≤ f
    | none => false
  | .runFilter => Config.runFilter ≤ s.belt.runTimer
  | .line e => e.due s
  | .eyeSample l => (s.lane l).raw != s.eyePin l
  | .debounce l => s.debounceDue l
  | .pullIn v => (s.valve v).pulling && (s.valve v).cfg.pullIn ≤ (s.valve v).pull
  | .activeEnd v active => (s.valve v).isActive && (s.valve v).active == active
  | .periodStart v => s.drive.base == periodOffset s.drive.period v
  | .onTimeEnd v => (s.valve v).holding && (s.valve v).out && !s.holdOut v
  | .railLow => s.rail.state == .normal && Config.deglitch ≤ s.rail.timer
  | .railNormal => s.rail.state == .low && Config.deglitch ≤ s.rail.timer
  | .linkGap => s.link.rx.gapOver
  | .linkIdle => s.link.rx.idleOver
  | .transmitStart => s.link.canStart
  | .transmitEnd => s.link.frameSent

/-- The generated count of the source in force (R21, R27). -/
def State.stepGenerator (s : State) : State :=
  match s.belt.source with
  | .timed => s.stepTimed
  | _ => s.stepEstimated

/-- The last µs of an active time: a valve in PULL_IN or HOLD that comes to its max open time ends by overtime, a test that
comes to its duration ends; a valve that an action has taken over from its test meanwhile goes on (R126, R137,
R139). -/
def State.lastMicro (s : State) (v : Fin 16) : State :=
  let s1 := s.putValve v { s.valve v with active := (s.valve v).active + 1 }
  if (s1.valve v).activeLimit ≤ (s1.valve v).active then
    if (s1.valve v).carrying then s1.overtimeOf v else s1.testEndOf v
  else s1

/-- What happens when its time has come: the same operation as the command of that row. -/
def Due.fire (s : State) : Due → State
  | .encoderSample => s.sampleEncoder s.pins.enc
  | .generatorStep => s.stepGenerator
  | .runFilter => s.runFilterExpiry s.pins.run
  | .line e => e.fire s
  | .eyeSample l => s.sampleEye l (s.eyePin l)
  | .debounce l => s.debounce l
  | .pullIn v => s.pullInExpiry v
  | .activeEnd v _ => s.lastMicro v
  | .periodStart v => s.periodStart v
  | .onTimeEnd v => s.onTimeEnd v
  | .railLow => s.railFalls
  | .railNormal => s.railRises
  | .linkGap => s.gapTimerExpired
  | .linkIdle => s.idleTimerExpired
  | .transmitStart => s.transmitBegins
  | .transmitEnd => s.transmitEnds

/-- It happens if it is still due when its turn comes: an event taken before it can have stopped its timer. -/
def Due.fireIfDue (s : State) (d : Due) : State := if d.due s then d.fire s else s

/-- A transmitter left free with a frame waiting begins it within the same microsecond (R174). -/
def State.arbiter (s : State) : State := if s.link.canStart then s.transmitBegins else s

/-- It takes its turn in a microsecond: it is due when time has advanced, or, for the arbiter, the frame on the line ends
then. -/
def Due.listed (s : State) (d : Due) : Bool := d.due s || (d == .transmitStart && s.link.frameSent)

/-- One microsecond: time advances, then everything due happens, in an order that is open (log 3, 4). -/
def State.tick (s : State) : State :=
  let s1 := s.advanceTime
  let q := s1.settle ((Due.all s).filter (Due.listed s1))
  (q.1.foldl Due.fireIfDue q.2).arbiter

end Sys2Proof.Machine
end

