-- ==== Sys2Proof/Machine/RequestCommands.lean ====
section
/-! DEFINITION. The meanings of the twenty requests and of UNKNOWN_KIND. A request command is a complete frame of that
request offered to the receive queue (R167) and executed as soon as R168 allows; what it does at execution is its
`run` definition in Requests.lean (log 1). -/

namespace Sys2Proof.Machine

/-- What one command does: the part afterwards. No command of the part faults or refuses. -/
abbrev Effect := Host.Outcome State Fault Refusal

/-- IDENT (R176). -/
def execIdent (tag : Byte) (p : List Byte) (s : State) : Effect := .next (s.acceptFrame ⟨RequestKind.ident.code, tag, p⟩)

/-- STATUS (R158). -/
def execStatus (tag : Byte) (p : List Byte) (s : State) : Effect := .next (s.acceptFrame ⟨RequestKind.status.code, tag, p⟩)

/-- CLEAR_FAULTS (R156). -/
def execClearFaults (tag : Byte) (p : List Byte) (s : State) : Effect := .next (s.acceptFrame ⟨RequestKind.clearFaults.code, tag, p⟩)

/-- SET_LINK (R163). -/
def execSetLink (tag : Byte) (p : List Byte) (s : State) : Effect := .next (s.acceptFrame ⟨RequestKind.setLink.code, tag, p⟩)

/-- SET_NOTICES (R173). -/
def execSetNotices (tag : Byte) (p : List Byte) (s : State) : Effect := .next (s.acceptFrame ⟨RequestKind.setNotices.code, tag, p⟩)

/-- RESET (R177). -/
def execReset (tag : Byte) (p : List Byte) (s : State) : Effect := .next (s.acceptFrame ⟨RequestKind.reset.code, tag, p⟩)

/-- SET_LINE (R3 to R5). -/
def execSetLine (tag : Byte) (p : List Byte) (s : State) : Effect := .next (s.acceptFrame ⟨RequestKind.setLine.code, tag, p⟩)

/-- SET_LANE (R29 to R32). -/
def execSetLane (tag : Byte) (p : List Byte) (s : State) : Effect := .next (s.acceptFrame ⟨RequestKind.setLane.code, tag, p⟩)

/-- SET_VALVE (R114, R115). -/
def execSetValve (tag : Byte) (p : List Byte) (s : State) : Effect := .next (s.acceptFrame ⟨RequestKind.setValve.code, tag, p⟩)

/-- SET_HOLD (R123). -/
def execSetHold (tag : Byte) (p : List Byte) (s : State) : Effect := .next (s.acceptFrame ⟨RequestKind.setHold.code, tag, p⟩)

/-- SET_POSITION (R13). -/
def execSetPosition (tag : Byte) (p : List Byte) (s : State) : Effect := .next (s.acceptFrame ⟨RequestKind.setPosition.code, tag, p⟩)

/-- ARM (R144, R145). -/
def execArm (tag : Byte) (p : List Byte) (s : State) : Effect := .next (s.acceptFrame ⟨RequestKind.arm.code, tag, p⟩)

/-- DISARM (R146). -/
def execDisarm (tag : Byte) (p : List Byte) (s : State) : Effect := .next (s.acceptFrame ⟨RequestKind.disarm.code, tag, p⟩)

/-- VERDICT (R71 to R81). -/
def execVerdict (tag : Byte) (p : List Byte) (s : State) : Effect := .next (s.acceptFrame ⟨RequestKind.verdict.code, tag, p⟩)

/-- CANCEL (R84 to R89). -/
def execCancel (tag : Byte) (p : List Byte) (s : State) : Effect := .next (s.acceptFrame ⟨RequestKind.cancel.code, tag, p⟩)

/-- QUERY_ITEM (R70). -/
def execQueryItem (tag : Byte) (p : List Byte) (s : State) : Effect := .next (s.acceptFrame ⟨RequestKind.queryItem.code, tag, p⟩)

/-- QUERY_VALVE (R141). -/
def execQueryValve (tag : Byte) (p : List Byte) (s : State) : Effect := .next (s.acceptFrame ⟨RequestKind.queryValve.code, tag, p⟩)

/-- TEST_FIRE (R136, R137). -/
def execTestFire (tag : Byte) (p : List Byte) (s : State) : Effect := .next (s.acceptFrame ⟨RequestKind.testFire.code, tag, p⟩)

/-- ENABLE_VALVE (R134). -/
def execEnableValve (tag : Byte) (p : List Byte) (s : State) : Effect := .next (s.acceptFrame ⟨RequestKind.enableValve.code, tag, p⟩)

/-- DISABLE_VALVE (R133). -/
def execDisableValve (tag : Byte) (p : List Byte) (s : State) : Effect := .next (s.acceptFrame ⟨RequestKind.disableValve.code, tag, p⟩)

/-- UNKNOWN_KIND: a frame of any other kind, answered UNKNOWN_KIND at execution (R169). -/
def execUnknownKind (kind tag : Byte) (p : List Byte) (s : State) : Effect := .next (s.acceptFrame ⟨kind, tag, p⟩)

end Sys2Proof.Machine
end

