-- ==== Sys2Proof/Machine/EventCommands.lean ====
section
/-! DEFINITION. The meanings of the resets and of the events of the belt, the eyes, the valves, the rail and the link.
An expiry command is the sender's word that the timer it names has reached its value: it acts whenever that timer
runs, and puts the timer there where the value is kept (log 2). The tick issues the same operations at the right
microsecond (Clock.lean). -/

namespace Sys2Proof.Machine

/-! ### Resets -/

/-- POWER_ON_RESET (R2). -/
def execPowerOnReset (s : State) : Effect := .next (s.resetPart .powerOn .reset)

/-- PIN_RESET: RESETn low for at least 10 µs resets, a shorter low level does nothing (R2; log 13). -/
def execPinReset (lowMicros : Nat) (s : State) : Effect :=
  .next (if Config.pinResetLow ≤ lowMicros then s.resetPart .pin .reset else s)

/-! ### Encoder samples and generated steps -/

/-- QUADRATURE_COUNT: a sample of the pair (R7; log 8). -/
def execQuadratureCount (a b : Level) (s : State) : Effect := .next (s.sampleEncoder ⟨a, b⟩)

/-- PULSE_DIR_COUNT: a sample with ENC_A high (R8; log 8). -/
def execPulseDirCount (b : Level) (s : State) : Effect := .next (s.sampleEncoder ⟨.high, b⟩)

/-- ENC_PHASE: a sample in which both inputs have changed (R7; log 8). -/
def execEncPhase (a b : Level) (s : State) : Effect := .next (s.sampleEncoder ⟨a, b⟩)

/-- FALLING_ENC_A: a sample with ENC_A low (R8; log 8). -/
def execFallingEncA (b : Level) (s : State) : Effect := .next (s.sampleEncoder ⟨.low, b⟩)

/-- TIMED_STEP (R9, R27). -/
def execTimedStep (s : State) : Effect := .next s.stepTimed

/-- ESTIMATED_STEP (R9, R21). -/
def execEstimatedStep (s : State) : Effect := .next s.stepEstimated

/-! ### RUN and the belt's timers -/

/-- RUN_CHANGE: the pin has held a level for 1 ms (R10). -/
def execRunChange (level : Level) (s : State) : Effect := .next (s.runFilterExpiry level)

/-- STOP_TIMER_EXPIRY (R16). -/
def execStopTimerExpiry (s : State) : Effect := .next s.stopExpiry

/-- LOSS_TIMER_EXPIRY (R20, R21). -/
def execLossTimerExpiry (s : State) : Effect := .next s.lossExpiry

/-- LIMIT_TIMER_EXPIRY (R22, R23). -/
def execLimitTimerExpiry (s : State) : Effect := .next s.limitExpiry

/-- CONFIRMING_GAP (R24, R25). -/
def execConfirmingGap (s : State) : Effect := .next s.gapExpiry

/-- SILENCE_TIMER_EXPIRY (R25, R148). -/
def execSilenceTimerExpiry (s : State) : Effect := .next s.silenceExpiry

/-! ### Eyes -/

/-- EYE_RAW_CHANGE: a sensor drives the pin of a lane to a level, and it is sampled (R34 to R37). -/
def execEyeRawChange (l : Fin 8) (level : Level) (s : State) : Effect :=
  .next (({ s with pins := { s.pins with
    eyes := s.pins.eyes.set l { s.pins.eyes[l] with drive := some level } } }).sampleEye l level)

/-- DEBOUNCE_EXPIRY (R36, R37). -/
def execDebounceExpiry (l : Fin 8) (s : State) : Effect := .next (s.debounce l)

/-! ### Valves -/

/-- PULL_IN_TIMER_EXPIRY (R119, R137). -/
def execPullInTimerExpiry (v : Fin 16) (s : State) : Effect := .next (s.pullInExpiry v)

/-- OVERTIME (R126, R127). -/
def execOvertime (v : Fin 16) (s : State) : Effect := .next (s.overtimeOf v)

/-- TEST_END (R137). -/
def execTestEnd (v : Fin 16) (s : State) : Effect := .next (s.testEndOf v)

/-- PWM_PERIOD_START (R121 to R123). -/
def execPwmPeriodStart (v : Fin 16) (s : State) : Effect := .next (s.periodStart v)

/-- PWM_ON_TIME_END (R122). -/
def execPwmOnTimeEnd (v : Fin 16) (s : State) : Effect := .next (s.onTimeEnd v)

/-! ### Rail -/

/-- RAIL_LOW_ENTRY: VSNS has been below 1.50 V for 50 µs; nothing while the rail is LOW (R151, R152; log 21). -/
def execRailLowEntry (s : State) : Effect :=
  .next (match s.rail.state with
    | .normal => ({ s with pins := { s.pins with vsns := .below } }).railFalls
    | .low => s)

/-- RAIL_NORMAL_ENTRY: VSNS has been above 1.62 V for 50 µs; nothing while the rail is NORMAL (R151, R153; log 21). -/
def execRailNormalEntry (s : State) : Effect :=
  .next (match s.rail.state with
    | .low => ({ s with pins := { s.pins with vsns := .above } }).railRises
    | .normal => s)

/-! ### Link -/

/-- CHARACTER_RECEIVED (R162, R164 to R166). -/
def execCharacterReceived (b : Byte) (e : CharTail) (s : State) : Effect := .next (s.receive b e.parityBit e.stopBit)

/-- FRAME_COMPLETE: the character that completes a frame, without error (R165, R167; log 11). -/
def execFrameComplete (b : Byte) (s : State) : Effect :=
  .next (s.receive b (s.link.settings.parity.levelFor b) .high)

/-- FRAME_ERROR: the character at which a frame is found wrong (R165, R166; log 11). -/
def execFrameError (b : Byte) (e : CharTail) (s : State) : Effect := .next (s.receive b e.parityBit e.stopBit)

/-- GAP_TIMER_EXPIRY (R165). -/
def execGapTimerExpiry (s : State) : Effect := .next s.gapTimerExpired

/-- IDLE_TIMER_EXPIRY (R166). -/
def execIdleTimerExpiry (s : State) : Effect := .next s.idleTimerExpired

/-- TRANSMIT_START (R174, R175). -/
def execTransmitStart (s : State) : Effect := .next s.transmitBegins

/-- TRANSMIT_END (R175, R163, R177). -/
def execTransmitEnd (s : State) : Effect := .next s.transmitEnds

end Sys2Proof.Machine
end

