-- ==== Sys2Proof/Machine/Dispatch.lean ====
section
/-! DEFINITION. One arm per command. -/

namespace Sys2Proof.Machine

/-- The effect of one command on everything but the queue. -/
def exec (i : Instr) (s : State) : Host.Outcome State Fault Refusal :=
  match i with
  | .powerOnReset => Sys2Proof.Machine.execPowerOnReset s
  | .pinReset lowMicros => Sys2Proof.Machine.execPinReset lowMicros s
  | .ident tag payload => Sys2Proof.Machine.execIdent tag payload s
  | .status tag payload => Sys2Proof.Machine.execStatus tag payload s
  | .clearFaults tag payload => Sys2Proof.Machine.execClearFaults tag payload s
  | .setLink tag payload => Sys2Proof.Machine.execSetLink tag payload s
  | .setNotices tag payload => Sys2Proof.Machine.execSetNotices tag payload s
  | .reset tag payload => Sys2Proof.Machine.execReset tag payload s
  | .setLine tag payload => Sys2Proof.Machine.execSetLine tag payload s
  | .setLane tag payload => Sys2Proof.Machine.execSetLane tag payload s
  | .setValve tag payload => Sys2Proof.Machine.execSetValve tag payload s
  | .setHold tag payload => Sys2Proof.Machine.execSetHold tag payload s
  | .setPosition tag payload => Sys2Proof.Machine.execSetPosition tag payload s
  | .arm tag payload => Sys2Proof.Machine.execArm tag payload s
  | .disarm tag payload => Sys2Proof.Machine.execDisarm tag payload s
  | .verdict tag payload => Sys2Proof.Machine.execVerdict tag payload s
  | .cancel tag payload => Sys2Proof.Machine.execCancel tag payload s
  | .queryItem tag payload => Sys2Proof.Machine.execQueryItem tag payload s
  | .queryValve tag payload => Sys2Proof.Machine.execQueryValve tag payload s
  | .testFire tag payload => Sys2Proof.Machine.execTestFire tag payload s
  | .enableValve tag payload => Sys2Proof.Machine.execEnableValve tag payload s
  | .disableValve tag payload => Sys2Proof.Machine.execDisableValve tag payload s
  | .unknownKind kind tag payload => Sys2Proof.Machine.execUnknownKind kind tag payload s
  | .quadratureCount a b => Sys2Proof.Machine.execQuadratureCount a b s
  | .pulseDirCount b => Sys2Proof.Machine.execPulseDirCount b s
  | .encPhase a b => Sys2Proof.Machine.execEncPhase a b s
  | .timedStep => Sys2Proof.Machine.execTimedStep s
  | .estimatedStep => Sys2Proof.Machine.execEstimatedStep s
  | .runChange level => Sys2Proof.Machine.execRunChange level s
  | .stopTimerExpiry => Sys2Proof.Machine.execStopTimerExpiry s
  | .lossTimerExpiry => Sys2Proof.Machine.execLossTimerExpiry s
  | .limitTimerExpiry => Sys2Proof.Machine.execLimitTimerExpiry s
  | .confirmingGap => Sys2Proof.Machine.execConfirmingGap s
  | .silenceTimerExpiry => Sys2Proof.Machine.execSilenceTimerExpiry s
  | .eyeRawChange l level => Sys2Proof.Machine.execEyeRawChange l level s
  | .debounceExpiry l => Sys2Proof.Machine.execDebounceExpiry l s
  | .pullInTimerExpiry v => Sys2Proof.Machine.execPullInTimerExpiry v s
  | .overtime v => Sys2Proof.Machine.execOvertime v s
  | .testEnd v => Sys2Proof.Machine.execTestEnd v s
  | .pwmPeriodStart v => Sys2Proof.Machine.execPwmPeriodStart v s
  | .pwmOnTimeEnd v => Sys2Proof.Machine.execPwmOnTimeEnd v s
  | .railLowEntry => Sys2Proof.Machine.execRailLowEntry s
  | .railNormalEntry => Sys2Proof.Machine.execRailNormalEntry s
  | .frameComplete b => Sys2Proof.Machine.execFrameComplete b s
  | .frameError b e => Sys2Proof.Machine.execFrameError b e s
  | .gapTimerExpiry => Sys2Proof.Machine.execGapTimerExpiry s
  | .idleTimerExpiry => Sys2Proof.Machine.execIdleTimerExpiry s
  | .transmitStart => Sys2Proof.Machine.execTransmitStart s
  | .transmitEnd => Sys2Proof.Machine.execTransmitEnd s
  | .characterReceived b e => Sys2Proof.Machine.execCharacterReceived b e s
  | .fallingEncA b => Sys2Proof.Machine.execFallingEncA b s

end Sys2Proof.Machine
end

