-- ==== Sys2Proof/Safety.lean ====
section
/-! DEFINITION. What a safe run keeps: the invariants of the part as predicates on State, each from the rule it cites,
and the words the statements are written in (a link that executes at once, a reply in the slot, the values of a
reset). -/

namespace Sys2Proof.Machine

/-! ### The words of the statements -/

/-- A request that arrives now is executed as soon as it is queued (R168). -/
abbrev State.linkReady (s : State) : Prop :=
  s.link.queue = [] ∧ s.link.slot = none ∧ s.link.hold = false

/-- The part with a reply in the reply slot, and nothing else changed (R168). -/
def State.withReply (s : State) (kind tag : Byte) (body : List Byte) (after : AfterFrame) : State :=
  { s with link := { s.link with slot := some ⟨⟨kind, tag, body⟩, after⟩ } }

/-- No valve is in PULL_IN or HOLD, as in CONFIG and HALTED (Table 7-2). -/
abbrev State.noneCarrying (s : State) : Prop := ∀ v : Fin 16, (s.valve v).carrying = false

/-- The Tracking Table and every valve queue are empty, as in CONFIG and HALTED (Table 7-2). -/
abbrev State.storesEmpty (s : State) : Prop := s.table.records = [] ∧ ∀ v : Fin 16, s.queue v = []

/-- Every lane is OFF, as in CONFIG and HALTED (Table 7-2). -/
abbrev State.lanesAllOff (s : State) : Prop := ∀ l : Fin 8, (s.lane l).state = .off

/-- The part after the line has left ARMED, up to the notice of it (R39, R64, R112, R131, R146, R149): every lane OFF, every
valve in PULL_IN, HOLD or TEST in IDLE with its output off, no action, no record; configuration, duties, PWM base, tag
counter and flags as they were. -/
structure LeftArmed (s u : State) : Prop where
  lanes : ∀ l : Fin 8, u.lane l = { s.lane l with state := .off }
  lanesHanded : u.lanes.position = s.lanes.position ∧ u.lanes.motion = s.lanes.motion ∧ u.lanes.source = s.lanes.source
  valves : ∀ v : Fin 16, u.valve v =
    if (s.valve v).isActive then { s.valve v with state := .idle, out := false, pull := 0 } else s.valve v
  drive : u.drive.period = s.drive.period ∧ u.drive.base = s.drive.base ∧ u.drive.motion = s.drive.motion ∧
    u.drive.rail = s.drive.rail
  queues : ∀ v : Fin 16, u.queue v = [] ∧ u.advance v = s.advance v
  schedule : u.sched.position = s.sched.position ∧ u.sched.motion = s.sched.motion ∧ u.sched.speed = s.sched.speed
  table : u.table = { s.table with records := [] }
  rest : u.belt = s.belt ∧ u.rail = s.rail ∧ u.link = s.link ∧ u.pins = s.pins ∧ u.now = s.now ∧
    u.order = s.order ∧ u.pending = s.pending

/-- The notices that waited stay at the front of the queue, in their order, and what is offered stands behind them; but where
the transmitter is free and the reply slot empty, the oldest can have begun to be sent (R171, R172). -/
def NoticesKept (l m : Link) : Prop :=
  ∃ offered : List Notice,
    (m.tx = l.tx ∧ m.notices = l.notices ++ offered) ∨
    (l.tx = .free ∧ l.slot = none ∧ ∃ n, l.notices ++ offered = n :: m.notices ∧
      m.tx = .sending n.frame.bytes .nothing 0)

/-- What an event of the belt cannot change, whatever it brings about: the link but for the notices it queues and, where a
queued notice can begin, the transmitter that takes it (R172); the flags but for those named and NOTICE_DROP, the rail,
the eye filters and lane configurations, the valves' configurations and duties, the PWM base, the time base. -/
structure Framed (s t : State) (flags : List FaultFlag) : Prop where
  link : t.link = { s.link with notices := t.link.notices, tx := t.link.tx }
  tx : (s.link.tx ≠ .free ∨ s.link.slot ≠ none) → t.link.tx = s.link.tx
  notices : NoticesKept s.link t.link
  flags : ∀ f, f ∉ flags → f ≠ .noticeDrop → t.flag f = s.flag f
  cause : t.ctrl.resetCause = s.ctrl.resetCause
  rail : t.rail = s.rail ∧ t.drive.rail = s.drive.rail
  lanes : ∀ l : Fin 8, t.lane l = { s.lane l with state := (t.lane l).state }
  valves : ∀ v : Fin 16, t.valve v = { s.valve v with
    state := (t.valve v).state, active := (t.valve v).active, pull := (t.valve v).pull, out := (t.valve v).out }
  pwm : t.drive.period = s.drive.period ∧ t.drive.base = s.drive.base
  outside : t.now = s.now ∧ t.pending = s.pending

/-! ### Changes of motion and source as they are handed (R17, R26) -/

/-- The change of the source from `old` to the belt's is handed, if it is one: LINE_EVENT SOURCE is offered with the new
source, and the Lane Inputs hold it (R26). -/
def HandsSource (s : State) (old : SourceKind) (t : State) : Prop :=
  let k := s.belt.source.kind
  (k = old → t = s) ∧
  (k ≠ old → t = { s.offer (.source k none) with lanes := { s.lanes with source := k } })

/-- LINE_EVENT SOURCE is offered with the source LOST and its cause, and the Lane Inputs hold the source (R26). -/
def ToldLost (s : State) (cause : LostCause) : State :=
  { s.offer (.source .lost (some cause)) with lanes := { s.lanes with source := .lost } }

/-- The change of the motion state from `old` to the belt's is handed, if it is one: MOTION is offered with the new motion
state and the belt position, and the Lane Inputs, the Valve Drive and the Line Controller take the change (R17). Whether
the notice stands before or behind what the receivers offer is open (log 4). -/
def HandsMotion (s : State) (old : Motion) (t : State) : Prop :=
  let new := s.belt.motion
  let notice : Notice := .motion new s.belt.position
  let taken (x : State) : State :=
    let y := (x.lanesMotion new).driveMotion old new
    { y with ctrl := { y.ctrl with motion := new } }
  (new = old → t = s) ∧
  (new ≠ old → ∃ o : List Nat,
    t = taken ({ s with order := o }.offer notice) ∨ t = (taken { s with order := o }).offer notice)

/-- An entry into LOST with a cause: the source change first, with the halt that the Line Controller makes of it, then the
motion change from `old` (R17, R26, R148, R149). -/
def HandsLost (s : State) (cause : LostCause) (old : Motion) (t : State) : Prop :=
  HandsMotion ((ToldLost s cause).takeLost cause) old t

/-! ### Outcomes and withdrawn contributions (R63, R108) -/

/-- A contribution of a list serves the target of an index of the item of a tag. -/
def names (cs : List Contribution) (tag index : Nat) : Bool := cs.any (fun k => k.tag == tag && k.index == index)

/-- The table with the outcome that `f` gives the target of a tag and an index, every other outcome and every other field
of every record as it was (R63). -/
def Table.withOutcomes (t : Table) (f : Nat → Nat → Option TargetOutcome) : Table :=
  { t with records := t.records.map (fun r => { r with progress := r.progress.mapTargets (fun ts =>
      ts.mapIdx (fun i x => { x with outcome := (f r.tag i).getD x.outcome })) }) }

/-- One outcome for the targets that a list of contributions serves. -/
def served (o : TargetOutcome) (cs : List Contribution) (tag index : Nat) : Option TargetOutcome :=
  if names cs tag index then some o else none

/-- The outcomes of a purge: CUT for the OPEN action, MISSED for the QUEUED ones (R111). -/
def purged (q : List Action) (tag index : Nat) : Option TargetOutcome :=
  if names (queuedContribs q) tag index then some .missed
  else if names (openContribs q) tag index then some .cut else none

/-- The least of a list of points (section 0.6). -/
def leastPoint : List Pos → Pos
  | [] => 0
  | p :: ps => ps.foldl (fun m x => if comesAfter m x then x else m) p

/-- The greatest of a list of points (section 0.6). -/
def greatestPoint : List Pos → Pos
  | [] => 0
  | p :: ps => ps.foldl (fun m x => if comesAfter x m then x else m) p

/-- An action without the contributions of a tag: untouched if it holds none; gone with its last contribution; else a
QUEUED one takes its points again from what remains, an OPEN one keeps its points (R91, R108). -/
def leftWithout (tag : Nat) (a : Action) : Option Action :=
  let keep := a.contribs.filter (fun k => k.tag != tag)
  if keep.length = a.contribs.length then some a
  else if keep = [] then none
  else if a.state = .queued then
    some { a with openAt := leastPoint (keep.map Contribution.openAt),
                  closeAt := greatestPoint (keep.map Contribution.closeAt), contribs := keep }
  else some { a with contribs := keep }

/-- `x` stands in a list among the elements of another, before the first whose point comes after its own (R91, R93). -/
def PlacedIn {α : Type} (point : α → Pos) (x : α) (before after : List α) : Prop :=
  ∃ front back, before = front ++ back ∧ after = front ++ x :: back ∧
    (∀ d ∈ front, comesAfter (point d) (point x) = false) ∧
    ∀ d, back.head? = some d → comesAfter (point d) (point x) = true

/-! ### Request payloads as chapter 9 lays them out -/

/-- Encoder mode codes (Table 9-5). -/
def EncMode.code : EncMode → Byte
  | .quadrature => 1 | .pulseDir => 2 | .timed => 3

/-- RUN polarity codes (Table 9-5). -/
def Polarity.code : Polarity → Byte
  | .activeHigh => 1 | .activeLow => 2

/-- Level codes (Table 9-5). -/
def levelCode : Level → Byte
  | .low => 0 | .high => 1

/-- SET_LINE (Table 9-8). -/
def LineParams.payload (q : LineParams) : List Byte :=
  [q.mode.code, q.polarity.code] ++ put8 q.reversal ++ put16 q.lossTime ++ put16 q.stopTime ++
    put16 q.estimateLimit ++ put32 q.timedSpeed ++ put16 q.pwmPeriod

/-- SET_VALVE (Table 9-9). -/
def ValveParams.payload (q : ValveParams) (v : Fin 16) : List Byte :=
  put8 v.val ++ put8 q.mode.code ++ put32 q.nozzleOffset ++ put16 q.openLatency ++ put16 q.closeLatency ++
    put16 q.pullIn ++ put8 q.holdDuty ++ put16 q.minGap ++ put16 q.maxOpen

/-- The valve parameters are in the ranges of Table 6-2. -/
abbrev ValveParams.wf (q : ValveParams) : Prop :=
  q.nozzleOffset ≤ 1048575 ∧ q.openLatency ≤ 50000 ∧ q.closeLatency ≤ 50000 ∧ q.pullIn ≤ 50000 ∧
  q.holdDuty ≤ 64 ∧ q.minGap ≤ 65535 ∧ 1 ≤ q.maxOpen ∧ q.maxOpen ≤ 2000

/-- The end of a target as its two fields (Table 9-10). -/
def TargetEnd.bytes : TargetEnd → List Byte
  | .itemEnd o => 1 :: putHalf o
  | .fixed span => 2 :: putHalf span

/-- A target place (Table 9-10). -/
def Target.bytes (t : Target) : List Byte := put8 t.valve.val ++ putHalf t.start ++ t.stop.bytes

/-- A FIXED end has a span of at least 1 (Table 4-1). -/
def Target.wf (t : Target) : Bool :=
  match t.stop with
  | .itemEnd _ => true
  | .fixed span => span != 0

/-- Four target places, those beyond the count filled with zeros (Tables 9-11 and 9-12). -/
def targetPlacesBytes (ts : List Target) : List Byte := padTo 24 (ts.flatMap Target.bytes)

/-- SET_LANE (Table 9-11). -/
def LaneParams.payload (q : LaneParams) (l : Fin 8) : List Byte :=
  put8 l.val ++ putBool q.enabled ++ [levelCode q.present] ++ putBool q.pullUp ++ put16 q.debounce ++ put16 q.minLength ++
    put16 q.maxLength ++ put32 q.eyeOffset ++ put32 q.horizonOffset ++ put32 q.exitOffset ++ putHalf q.valveSet ++
    put8 q.default.length ++ targetPlacesBytes q.default

/-- The lane parameters pass the checks of R29. -/
abbrev LaneParams.wf (q : LaneParams) : Prop :=
  q.debounce ≤ 10000 ∧ 1 ≤ q.minLength ∧ q.minLength ≤ q.maxLength ∧ q.maxLength ≤ 65535 ∧ q.eyeOffset ≤ 1048575 ∧
  q.maxLength + 1 ≤ q.horizonOffset ∧ q.horizonOffset ≤ 1048575 ∧ 1 ≤ q.exitOffset ∧ q.exitOffset ≤ 1048575 ∧
  q.default.length ≤ 4 ∧ ∀ t ∈ q.default, t.wf = true ∧ q.valveSet.getLsbD t.valve.val = true

/-- VERDICT (Table 9-12). -/
def verdictPayload (tag : Half) (ts : List Target) : List Byte :=
  putHalf tag ++ put8 ts.length ++ targetPlacesBytes ts

/-! ### The stores (R49, R50, R90 to R92, R167, R171) -/

/-- A record that can have contributions in the queues (R63). -/
def ItemRecord.isDecided (r : ItemRecord) : Bool :=
  match r.progress with
  | .decided _ _ _ => true | .defaulted _ _ => true | .entering => false | .awaiting _ => false

/-- At most 64 records, no two with the same tag, tags and the counter from 1 to 65,535 (R49, R50). -/
abbrev Table.wf (t : Table) : Prop :=
  t.records.length ≤ 64 ∧ (t.records.map ItemRecord.tag).Nodup ∧
  (∀ r ∈ t.records, 1 ≤ r.tag ∧ r.tag ≤ 65535) ∧ 1 ≤ t.nextTag ∧ t.nextTag ≤ 65535

/-- An action holds 1 to 4 contributions (R91). -/
abbrev Action.wf (a : Action) : Prop := 1 ≤ a.contribs.length ∧ a.contribs.length ≤ 4

/-- At most 128 actions in all queues, and each holds 1 to 4 contributions (R90, R91). -/
abbrev Schedule.wf (c : Schedule) : Prop :=
  c.slotsInUse ≤ 128 ∧ ∀ v : Fin 16, ∀ a ∈ c.queues[v], a.wf

/-- Every contribution in a queue names a record that is DECIDED or DEFAULTED (R62, R92). -/
abbrev State.contributionsNamed (s : State) : Prop :=
  ∀ v : Fin 16, ∀ a ∈ s.queue v, ∀ c ∈ a.contribs,
    ∃ r ∈ s.table.records, r.tag = c.tag ∧ r.isDecided = true

/-- The Tracking Table and the Action Schedule together (R49, R50, R90 to R92). -/
abbrev State.storesWf (s : State) : Prop :=
  s.table.wf ∧ s.sched.wf ∧ s.contributionsNamed

/-- At most 2 requests, 32 notices (R167, R171). -/
abbrev State.linkWf (s : State) : Prop := s.link.queue.length ≤ 2 ∧ s.link.notices.length ≤ 32

/-! ### The line (Table 7-2, R135) -/

/-- Outside ARMED the lanes are OFF, the table and the queues empty, and no valve carries an action; in HALTED no valve
is in TEST either (Table 7-2). -/
abbrev State.lineWf (s : State) : Prop :=
  (s.ctrl.line ≠ .armed → s.lanesAllOff ∧ s.storesEmpty ∧ s.noneCarrying) ∧
  (s.ctrl.line ≠ .armed → s.ctrl.line ≠ .config → ∀ v : Fin 16, (s.valve v).isActive = false)

/-- A DISABLED valve has an empty queue (R135). -/
abbrev State.disabledWf (s : State) : Prop :=
  ∀ v : Fin 16, (s.valve v).state = .disabled → s.queue v = []

/-! ### The outputs (R117) -/

/-- An output is on only in PULL_IN, HOLD or TEST and with the rail NORMAL; the Valve Drive's rail is the Rail Monitor's
(R117, R130). -/
abbrev State.outputsWf (s : State) : Prop :=
  s.drive.rail = s.rail.state ∧
  (∀ v : Fin 16, (s.valve v).out = true → (s.valve v).isActive = true) ∧
  (s.drive.rail = .low → ∀ v : Fin 16, (s.valve v).isActive = false)

/-- An active valve is below its max open time, a test of at least 1 ms is no longer than it and below its duration
(R125, R136, R137). -/
abbrev Valve.activeWf (x : Valve) : Prop :=
  (x.isActive = true → x.active < x.cfg.maxOpen * 1000) ∧
  (∀ ph d, x.state = .test ph d → 1 ≤ d ∧ d ≤ x.cfg.maxOpen ∧ x.active < d * 1000) ∧ 1 ≤ x.cfg.maxOpen

/-- Every valve's active time is below what ends it (R125). -/
abbrev State.activeWf (s : State) : Prop := ∀ v : Fin 16, (s.valve v).activeWf

/-! ### The belt (chapter 1) -/

/-- The line parameters are in the ranges of Table 1-2. -/
abbrev LineParams.wf (p : LineParams) : Prop :=
  (1 ≤ p.reversal ∧ p.reversal ≤ 255) ∧ (1 ≤ p.lossTime ∧ p.lossTime ≤ 1000) ∧
  (1 ≤ p.stopTime ∧ p.stopTime ≤ 1000) ∧ (10 ≤ p.estimateLimit ∧ p.estimateLimit ≤ 5000) ∧
  (1 ≤ p.timedSpeed ∧ p.timedSpeed ≤ 200000) ∧ (20 ≤ p.pwmPeriod ∧ p.pwmPeriod ≤ 1000)

/-- The source is TIMED exactly in the mode TIMED, where the belt is never in REVERSE (R27). -/
abbrev Belt.timedWf (b : Belt) : Prop :=
  (b.source = .timed ↔ b.par.mode = .timed) ∧ (b.source = .timed → b.motion ≠ .reverse)

/-- The source is ESTIMATE, or a CONFIRMING that began there. -/
def Source.estimating : Source → Bool
  | .estimate => true
  | .confirming c => c.origin == .estimate
  | .encoder => false | .timed => false | .lost => false

/-- In LOST the motion is STOPPED and the generator stopped; in ESTIMATE the motion is FORWARD; RUN is active in ESTIMATE
and in a CONFIRMING begun there (R21, R22, R24, R25). -/
abbrev Belt.sourceWf (b : Belt) : Prop :=
  (b.source = .lost → b.motion = .stopped ∧ b.gen = none) ∧
  (b.source = .estimate → b.motion = .forward) ∧
  (b.source.estimating = true → b.run = true)

/-- The timers run only where their rules let them: the stop timer in ENCODER or CONFIRMING with RUN inactive and the
belt not STOPPED (R16), the loss timer in ENCODER with RUN active (R20), the limit timer in ESTIMATE and in a CONFIRMING
begun there (R22, R23), its expired mark in such a CONFIRMING alone (R23), the silence timer in LOST with RUN active and
the restart mark set (R25). -/
abbrev Belt.timersWf (b : Belt) : Prop :=
  (b.stopTimer ≠ none → (b.source.kind = .encoder ∨ b.source.kind = .confirming) ∧ b.run = false ∧
    b.motion ≠ .stopped) ∧
  (b.lossTimer ≠ none → b.source = .encoder ∧ b.run = true) ∧
  (b.limitTimer ≠ none → b.source.estimating = true) ∧
  (b.limitExpired = true → b.source.estimating = true ∧ b.source ≠ .estimate) ∧
  (b.silenceTimer ≠ none → b.source = .lost ∧ b.run = true ∧ b.restart = true)

/-- The reversal accumulator stays below the reversal threshold (Table 1-1, R14, R15). -/
abbrev Belt.accWf (b : Belt) : Prop :=
  b.acc < b.par.reversal ∧ -(b.par.reversal : Int) < b.acc ∧ (b.motion ≠ .stopped → 0 ≤ b.acc)

/-- While CONFIRMING lasts, its confirmation count is from 1 to 3: the fourth count enters ENCODER (R23). -/
def Source.countWf : Source → Bool
  | .confirming c => decide (1 ≤ c.count ∧ c.count ≤ 3)
  | .encoder => true | .timed => true | .estimate => true | .lost => true

/-- At most 8 intervals of at most 1,000,000 µs; speeds at most 500,000; the confirmation count
(R18, R19, R23). -/
abbrev Belt.countsWf (b : Belt) : Prop :=
  b.history.length ≤ 8 ∧ (∀ i ∈ b.history, i ≤ 1000000) ∧ b.frozen ≤ 500000 ∧ b.speed ≤ 500000 ∧
  b.source.countWf = true

/-- The Belt Position Unit's invariant. -/
abbrev Belt.wf (b : Belt) : Prop :=
  b.par.wf ∧ b.timedWf ∧ b.sourceWf ∧ b.timersWf ∧ b.accWf ∧ b.countsWf

/-! ### What has been handed (R12, R17, R26) -/

/-- Between events every receiver holds the belt's position, motion and source as last handed, and the Valve Drive the
PWM period (R12, R17, R26, R124). -/
abbrev State.handedWf (s : State) : Prop :=
  s.lanes.position = s.belt.position ∧ s.table.position = s.belt.position ∧
  s.sched.position = s.belt.position ∧
  s.lanes.motion = s.belt.motion ∧ s.drive.motion = s.belt.motion ∧ s.ctrl.motion = s.belt.motion ∧
  s.lanes.source = s.belt.source.kind ∧ s.drive.period = s.belt.par.pwmPeriod

/-! ### Resets -/

/-- The Belt Position Unit, the Lane Inputs and the Tracking Table after a reset (Table 1-6, Table 1-2, R33, R51). -/
structure ResetBelt (s t : State) : Prop where
  params : t.belt.par = ⟨.quadrature, .activeHigh, 8, 50, 100, 500, 1000, 50⟩
  counting : t.belt.encRef = none ∧ t.belt.gen = none ∧ t.belt.position = 0 ∧ t.belt.motion = .stopped ∧ t.belt.acc = 0
  run : t.belt.runFiltered = .low ∧ t.belt.run = false
  speed : t.belt.history = [] ∧ t.belt.last = none ∧ t.belt.frozen = 0 ∧ t.belt.speed = 0
  source : t.belt.source = .encoder ∧ t.belt.restart = false ∧ t.belt.limitExpired = false
  timers : t.belt.stopTimer = none ∧ t.belt.lossTimer = none ∧ t.belt.limitTimer = none ∧ t.belt.silenceTimer = none
  handed : t.lanes.position = 0 ∧ t.lanes.motion = .stopped ∧ t.lanes.source = .encoder
  lanes : ∀ l : Fin 8, (t.lane l).state = .off ∧ (t.lane l).candidate = none ∧
    (t.lane l).cfg = ⟨false, .low, true, 500, 4, 4000, 0, 8000, 20000, 0, []⟩
  eyes : ∀ l : Fin 8, (t.lane l).confirmed = s.pins.eyes[l].level true
  table : t.table = ⟨[], 1, 0, .stopped⟩

/-- The Action Schedule, the Valve Drive and the Rail Monitor after a reset (R90, R102, R116, R151). -/
structure ResetDrive (t : State) : Prop where
  queues : ∀ v : Fin 16, t.queue v = [] ∧ t.advance v = ⟨0, 0⟩
  slots : t.slotsInUse = 0
  update : t.sched.position = 0 ∧ t.sched.motion = .stopped ∧ t.sched.speed = 0
  valves : ∀ v : Fin 16, t.valve v = ⟨⟨.off, 0, 0, 0, 2000, 24, 0, 200⟩, .idle, 0, 0, 24, 24, false⟩
  pins : ∀ v : Fin 16, (t.valve v).pin = .highZ
  pwm : t.drive.period = 50 ∧ t.drive.base = 0
  handed : t.drive.motion = .stopped ∧ t.drive.rail = .low
  rail : t.rail = ⟨.low, 0⟩

/-- The Line Controller and the Link Port after a reset of a kind, with the link settings it leaves (R143, R154, R161,
Table 8-7). -/
structure ResetLink (t : State) (cause : ResetCause) (settings : LinkSettings) : Prop where
  line : t.ctrl.line = .config ∧ t.ctrl.motion = .stopped ∧ t.ctrl.resetCause = cause
  flags : ∀ f : FaultFlag, t.flag f = ⟨false, false⟩
  link : t.link = ⟨settings, .quiet 0, [], false, none, [.restart cause], 0xFF, .free⟩

/-- Everything the manual gives a reset, for the part `s` it meets and the part `t` it leaves. -/
structure ResetLeaves (s t : State) (cause : ResetCause) (settings : LinkSettings) : Prop where
  belt : ResetBelt s t
  drive : ResetDrive t
  link : ResetLink t cause settings
  outside : t.pins = s.pins ∧ t.pending = s.pending

end Sys2Proof.Machine
end

