-- ==== Sys2Proof/Certificates/Slice0/Obligations.lean ====
section
/-! DEFINITION. The statements about the TS-1608, for the provers. Each is a closed Prop; none rests on the value of
`State.order`. -/

open Sys2Proof Sys2Proof.Machine

/-! ### The step -/

/-- A step with a command at the front of the queue is that command on the part with the queue's rest. -/
def Obligations.StepRunsTheFrontCommand : Prop :=
  ∀ (c : Instr) (s : State) (rest : List Instr),
    step { s with pending := c :: rest } = exec c { s with pending := rest }

/-- The filtered RUN level read through a polarity (R10). -/
def RunThrough (level : Level) (polarity : Polarity) : Bool :=
  match level, polarity with
  | .high, .activeHigh => true
  | .low, .activeHigh => false
  | .high, .activeLow => false
  | .low, .activeLow => true

/-- Time advances by 1 µs (section 0.7): every running timer by one, the generator's fraction by its rate (R9), the PWM base
modulo its period (R121), and nothing else. A valve whose active time comes to its limit with this µs is left to the
event of that limit (R125, R128; log 3). -/
structure OneMicrosecond (s t : State) : Prop where
  belt : t.belt = { s.belt with
    gen := t.belt.gen, source := t.belt.source,
    runTimer := if s.pins.run = s.belt.runFiltered then 0 else s.belt.runTimer + 1,
    stopTimer := s.belt.stopTimer.map (· + 1), lossTimer := s.belt.lossTimer.map (· + 1),
    limitTimer := s.belt.limitTimer.map (· + 1), silenceTimer := s.belt.silenceTimer.map (· + 1) }
  generator : (s.belt.gen = none → t.belt.gen = none) ∧
    (∀ f, s.belt.gen = some f → s.belt.source = .timed → t.belt.gen = some (f + s.belt.par.timedSpeed)) ∧
    (∀ f, s.belt.gen = some f → s.belt.source = .estimate → t.belt.gen = some (f + s.belt.frozen))
  source : (∀ c, s.belt.source = .confirming c → t.belt.source = .confirming { c with gap := c.gap + 1 }) ∧
    ((∀ c, s.belt.source ≠ .confirming c) → t.belt.source = s.belt.source)
  valves : ∀ v : Fin 16, t.valve v = { s.valve v with
    active := (s.valve v).active + (if (s.valve v).isActive = true ∧ (s.valve v).atLimit = false then 1 else 0),
    pull := (s.valve v).pull + (if (s.valve v).pulling = true then 1 else 0) }
  base : t.drive = { s.drive with valves := t.drive.valves, base := (s.drive.base + 1) % s.drive.period }
  rail : t.rail.state = s.rail.state ∧ t.rail.timer =
    if (s.rail.state = .normal ∧ s.pins.vsns = .below) ∨ (s.rail.state = .low ∧ s.pins.vsns = .above)
    then s.rail.timer + 1 else 0
  receiver : t.link = { s.link with rx := t.link.rx, tx := t.link.tx } ∧
    (s.link.rx = .hunt → t.link.rx = .hunt) ∧
    (∀ got g, s.link.rx = .receive got g → s.pins.rxd = .idle → t.link.rx = .receive got (g + 1)) ∧
    (∀ got g, s.link.rx = .receive got g → s.pins.rxd ≠ .idle → t.link.rx = .receive got g) ∧
    (∀ i, s.link.rx = .quiet i → s.pins.rxd = .idle → t.link.rx = .quiet (i + 1)) ∧
    (∀ i, s.link.rx = .quiet i → s.pins.rxd ≠ .idle → t.link.rx = .quiet 0)
  transmitter : (s.link.tx = .free → t.link.tx = .free) ∧
    ∀ bytes a e, s.link.tx = .sending bytes a e → t.link.tx = .sending bytes a (e + 1)
  line : t.pins = { s.pins with rxd := t.pins.rxd } ∧ (s.pins.rxd = .idle → t.pins.rxd = .idle) ∧
    (s.pins.rxd = .busy → t.pins.rxd = .busy) ∧ (∀ n, 2 ≤ n → s.pins.rxd = .low n → t.pins.rxd = .low (n - 1)) ∧
    (s.pins.rxd = .low 1 → t.pins.rxd = .idle)
  rest : t.now = s.now + 1 ∧ t.lanes = s.lanes ∧ t.table = s.table ∧ t.sched = s.sched ∧ t.ctrl = s.ctrl ∧
    t.order = s.order ∧ t.pending = s.pending

/-- A sample of an eye at a level (R34 to R36), for the part `s` and the part `s1` that its pins leave: the raw level takes
it; a level unlike the confirmed one opens a candidate with what the Lane Inputs hold, confirmed at once with a debounce
time of 0; a return drops an open candidate. -/
structure SampledEye (s s1 : State) (l : Fin 8) (level : Level) (answer : Effect) : Prop where
  back : level = (s.lane l).confirmed →
    answer = .next (s1.putLane l { s.lane l with raw := level, candidate := none })
  going : ∀ c, level ≠ (s.lane l).confirmed → (s.lane l).candidate = some c →
    answer = .next (s1.putLane l { s.lane l with raw := level })
  opens : level ≠ (s.lane l).confirmed → (s.lane l).candidate = none →
    ∃ fresh : Candidate,
      fresh = { level := level, captured := s.lanes.position,
                estimated := (s.lanes.source == .estimate || s.lanes.source == .confirming), start := s.now,
                debounce := (s.lane l).cfg.debounce } ∧
      (0 < (s.lane l).cfg.debounce →
        answer = .next (s1.putLane l { s.lane l with raw := level, candidate := some fresh })) ∧
      ((s.lane l).cfg.debounce = 0 →
        answer = exec (.debounceExpiry l) (s1.putLane l { s.lane l with raw := level, candidate := some fresh }))

/-- The level of an EYE pin: what its sensor drives; HIGH where none does and the pull-up is on (R30, R33); what the pin
floats to where none does and it is off (model's choice, log 22). -/
structure EyeLevels (s : State) (l : Fin 8) : Prop where
  driven : ∀ level, s.pins.eyes[l].drive = some level → s.eyePin l = level
  pulledUp : s.pins.eyes[l].drive = none → (s.lane l).cfg.pullUp = true → s.eyePin l = .high
  floating : s.pins.eyes[l].drive = none → (s.lane l).cfg.pullUp = false → s.eyePin l = s.pins.eyes[l].float

/-- When each thing is due: a timer has reached its value, the generator its modulus, a pin differs from its last sample,
the base stands at an offset, the arbiter has something to choose. -/
structure DueByItsRule (s : State) : Prop where
  generator : Due.generatorStep.due s = true ↔ ∃ f, s.belt.gen = some f ∧ 1000000 ≤ f
  encoder : Due.encoderSample.due s = true ↔ s.belt.par.mode ≠ .timed ∧ s.belt.encRef ≠ some s.pins.enc
  filter : Due.runFilter.due s = true ↔ 1000 ≤ s.belt.runTimer
  stop : (Due.line .stop).due s = true ↔ ∃ e, s.belt.stopTimer = some e ∧ s.belt.par.stopTime * 1000 ≤ e
  loss : (Due.line .loss).due s = true ↔ ∃ e, s.belt.lossTimer = some e ∧ s.belt.par.lossTime * 1000 ≤ e
  limit : (Due.line .limit).due s = true ↔ ∃ e, s.belt.limitTimer = some e ∧ s.belt.par.estimateLimit * 1000 ≤ e
  gap : (Due.line .gap).due s = true ↔ ∃ c, s.belt.source = .confirming c ∧ s.belt.par.lossTime * 1000 < c.gap
  silence : (Due.line .silence).due s = true ↔ ∃ e, s.belt.silenceTimer = some e ∧ s.belt.par.lossTime * 1000 ≤ e
  eye : ∀ l : Fin 8, (Due.eyeSample l).due s = true ↔ (s.lane l).raw ≠ s.eyePin l
  debounce : ∀ l : Fin 8, (Due.debounce l).due s = true ↔
    ∃ c, (s.lane l).candidate = some c ∧ s.eyePin l = c.level ∧ c.start + c.debounce ≤ s.now
  pullIn : ∀ v : Fin 16, (Due.pullIn v).due s = true ↔ (s.valve v).pulling = true ∧ (s.valve v).cfg.pullIn ≤ (s.valve v).pull
  active : ∀ (v : Fin 16) (n : Nat), (Due.activeEnd v n).due s = true ↔
    (s.valve v).isActive = true ∧ (s.valve v).active = n
  period : ∀ v : Fin 16, (Due.periodStart v).due s = true ↔ s.drive.base = v.val * s.drive.period / 16
  onTime : ∀ v : Fin 16, (Due.onTimeEnd v).due s = true ↔ (s.valve v).holding = true ∧ (s.valve v).out = true ∧
    s.drive.period * (s.valve v).duty / 64 ≤
      (s.drive.base + s.drive.period - v.val * s.drive.period / 16) % s.drive.period
  railLow : Due.railLow.due s = true ↔ s.rail.state = .normal ∧ 50 ≤ s.rail.timer
  railNormal : Due.railNormal.due s = true ↔ s.rail.state = .low ∧ 50 ≤ s.rail.timer
  linkGap : Due.linkGap.due s = true ↔ ∃ got g, s.link.rx = .receive got g ∧ 3000 < g
  linkIdle : Due.linkIdle.due s = true ↔ ∃ i, s.link.rx = .quiet i ∧ 3000 ≤ i
  start : Due.transmitStart.due s = true ↔ s.link.tx = .free ∧ (s.link.slot ≠ none ∨ s.link.notices ≠ [])
  sent : Due.transmitEnd.due s = true ↔ ∃ bytes a e, s.link.tx = .sending bytes a e ∧
    bytes.length * (if s.link.settings.parity = .none then 10 else 11) * 1000000 ≤ e * s.link.settings.baud.rate

/-- What a thing does when its turn comes is what the command of its row does; the sample of an eye, driven or not, is at
the level its pin has. -/
structure FiresAsItsCommand (s : State) : Prop where
  timed : s.belt.source = .timed → exec .timedStep s = .next (Due.generatorStep.fire s)
  estimated : s.belt.source ≠ .timed → exec .estimatedStep s = .next (Due.generatorStep.fire s)
  encoder : exec (.quadratureCount s.pins.enc.a s.pins.enc.b) s = .next (Due.encoderSample.fire s)
  filter : exec (.runChange s.pins.run) s = .next (Due.runFilter.fire s)
  stop : exec .stopTimerExpiry s = .next ((Due.line .stop).fire s)
  loss : exec .lossTimerExpiry s = .next ((Due.line .loss).fire s)
  limit : exec .limitTimerExpiry s = .next ((Due.line .limit).fire s)
  gap : exec .confirmingGap s = .next ((Due.line .gap).fire s)
  silence : exec .silenceTimerExpiry s = .next ((Due.line .silence).fire s)
  eye : ∀ l : Fin 8, s.pins.eyes[l].drive = some (s.eyePin l) →
    exec (.eyeRawChange l (s.eyePin l)) s = .next ((Due.eyeSample l).fire s)
  sampled : ∀ l : Fin 8, SampledEye s s l (s.eyePin l) (.next ((Due.eyeSample l).fire s))
  debounce : ∀ l : Fin 8, exec (.debounceExpiry l) s = .next ((Due.debounce l).fire s)
  pullIn : ∀ v : Fin 16, exec (.pullInTimerExpiry v) s = .next ((Due.pullIn v).fire s)
  overtime : ∀ (v : Fin 16) (n : Nat), (s.valve v).carrying = true →
    (s.valve v).cfg.maxOpen * 1000 ≤ (s.valve v).active + 1 →
    exec (.overtime v) s = .next ((Due.activeEnd v n).fire s)
  testEnd : ∀ (v : Fin 16) (n : Nat) (ph : TestPhase) (d : Nat), (s.valve v).state = .test ph d →
    d * 1000 ≤ (s.valve v).active + 1 → exec (.testEnd v) s = .next ((Due.activeEnd v n).fire s)
  takenOver : ∀ (v : Fin 16) (n : Nat), (s.valve v).carrying = true →
    (s.valve v).active + 1 < (s.valve v).cfg.maxOpen * 1000 →
    (Due.activeEnd v n).fire s = s.putValve v { s.valve v with active := (s.valve v).active + 1 }
  period : ∀ v : Fin 16, exec (.pwmPeriodStart v) s = .next ((Due.periodStart v).fire s)
  onTime : ∀ v : Fin 16, exec (.pwmOnTimeEnd v) s = .next ((Due.onTimeEnd v).fire s)
  railLow : s.rail.state = .normal → s.pins.vsns = .below → exec .railLowEntry s = .next (Due.railLow.fire s)
  railNormal : s.rail.state = .low → s.pins.vsns = .above → exec .railNormalEntry s = .next (Due.railNormal.fire s)
  linkGap : exec .gapTimerExpiry s = .next (Due.linkGap.fire s)
  linkIdle : exec .idleTimerExpiry s = .next (Due.linkIdle.fire s)
  start : exec .transmitStart s = .next (Due.transmitStart.fire s)
  sent : exec .transmitEnd s = .next (Due.transmitEnd.fire s)

/-- Every command answers a next state in every state, and leaves the queue and the time base to the step; a step with
no command waiting is one microsecond (model's choice, log 3): time advances, then the things that are due happen once
each in an open order, each as its command does it, if it is still due when its turn comes, and a free transmitter takes
what waits (R9, R10, R16, R20 to R25, R34 to R36, R119, R121, R122, R125, R151, R165, R166, R174). -/
def Obligations.EveryStepAnswersANextState : Prop :=
  (∀ (c : Instr) (s : State), ∃ t, exec c s = .next t ∧ t.pending = s.pending ∧ t.now = s.now) ∧
  (∀ s : State, s.pending = [] → ∃ t, step s = .next t ∧ t.pending = [] ∧ t.now = s.now + 1) ∧
  (∀ s : State, s.pending = [] → ∃ (u : State) (ds : List Due) (o : List Nat) (w : State),
    OneMicrosecond s u ∧
    ds.Nodup ∧
    (∀ d : Due, d ∈ ds ↔
      (d.due u = true ∨ (d = .transmitStart ∧ Due.transmitEnd.due u = true)) ∧ d ≠ .line .run ∧
      ∀ v n, d = .activeEnd v n → (s.valve v).atLimit = true ∧ (s.valve v).active = n) ∧
    w = ds.foldl (fun t d => if d.due t = true then d.fire t else t) { u with order := o } ∧
    step s = exec .transmitStart w) ∧
  (∀ x : Valve, x.atLimit = true ↔
    (x.carrying = true ∧ x.cfg.maxOpen * 1000 ≤ x.active + 1) ∨ ∃ ph d, x.state = .test ph d ∧ d * 1000 ≤ x.active + 1) ∧
  (∀ s : State, DueByItsRule s) ∧ (∀ s : State, FiresAsItsCommand s) ∧ ∀ (s : State) (l : Fin 8), EyeLevels s l

/-! ### Resets -/

/-- The three kinds of reset (R2), with the values the chapters give each block. That the eye filter's first sample is the
pin's level at the reset, and that pins and waiting commands stay, are the model's (logs 6, 7, 15). -/
def Obligations.ThreeKindsOfReset : Prop :=
  (∀ s : State, ∃ t, exec .powerOnReset s = .next t ∧ ResetLeaves s t .powerOn ⟨.b115200, .even⟩) ∧
  (∀ (s : State) (n : Nat), 10 ≤ n →
    ∃ t, exec (.pinReset n) s = .next t ∧ ResetLeaves s t .pin ⟨.b115200, .even⟩) ∧
  (∀ (s : State) (n : Nat), n < 10 → exec (.pinReset n) s = .next s) ∧
  (∀ (s : State) (tag : Byte), s.linkReady → exec (.reset tag []) s =
    .next ({ s with link := { s.link with hold := true } }.withReply 0x86 tag [0] .reset)) ∧
  (∀ (s : State) (bytes : List Byte) (e : Nat), s.link.tx = .sending bytes .reset e →
    ∃ t, exec .transmitEnd s = .next t ∧ ResetLeaves s t .request s.link.settings)

/-! ### Requests of the Link Port and the Line Controller -/

/-- IDENT (R176). -/
def Obligations.IdentAnswersTheConstantFields : Prop :=
  ∀ (s : State) (tag : Byte), s.linkReady →
    exec (.ident tag []) s = .next (s.withReply 0x81 tag
      [0, 0x4A, 0x4F, 0x4C, 0x53, 0x54, 0x41, 0x4E, 0, 0x54, 0x53, 0x31, 0x36, 0x30, 0x38, 0, 0, 2, 64, 128, 16, 8]
      .nothing)

/-- The bit position of each flag in a flag field, and its number in a FAULT notice (Table 9-6). -/
def FlagPosition : FaultFlag → Nat
  | .encLost => 0 | .encPhase => 1 | .trackHalt => 2 | .railLow => 3 | .valveOvertime => 4 | .tableFull => 5
  | .schedFull => 6 | .eyeBlocked => 7 | .linkError => 8 | .linkOverrun => 9 | .noticeDrop => 10

/-- A two-byte flag field has at each flag's position exactly what `p` says of that flag, and no other bit (Table 9-6). -/
def FlagField (field : Half) (p : FaultFlag → Bool) : Prop :=
  (∀ f : FaultFlag, field.getLsbD (FlagPosition f) = p f) ∧ ∀ i, 11 ≤ i → field.getLsbD i = false

/-- STATUS (R158): the fields of Table 9-15 as they stand, the marks as before the request, then the mark of every set
flag; nothing else changes. -/
def Obligations.StatusGivesTheSnapshotThenMarks : Prop :=
  ∀ (s : State) (tag : Byte), s.linkReady →
    ∃ flags marks : Half,
      FlagField flags (fun f => (s.flag f).set) ∧
      FlagField marks (fun f => (s.flag f).set && (s.flag f).reported) ∧
      exec (.status tag []) s = .next (
        { s with ctrl := { s.ctrl with
            flags := s.ctrl.flags.map (fun (f : FlagState) => if f.set then ⟨true, true⟩ else f) } }.withReply 0x82 tag
          ([0] ++ put8 s.ctrl.line.code ++ put8 s.ctrl.line.causeCode ++ put8 s.belt.source.kind.code ++
            put8 s.ctrl.motion.code ++ putWord s.belt.position ++ put32 s.belt.speed ++
            put8 s.rail.state.code ++ putHalf flags ++ putHalf marks ++ put8 s.table.records.length ++
            put8 (128 - s.slotsInUse) ++ put8 s.link.notices.length ++ put8 s.ctrl.resetCause.code) .nothing)

/-- CLEAR_FAULTS (R156), with the conditions of R155; a cleared flag's next occurrence offers a new FAULT notice. -/
def Obligations.ClearFaultsClearsSeenFlagsWithoutCondition : Prop :=
  (∀ (s : State) (tag : Byte) (named : Half), s.linkReady → named &&& 0xF800 ≠ 0 →
    exec (.clearFaults tag (putHalf named)) s = .next (s.withReply 0x83 tag [3] .nothing)) ∧
  (∀ (s : State) (tag : Byte) (named : Half), s.linkReady → named &&& 0xF800 = 0 →
    ∃ (t : State) (flags marks : Half),
      exec (.clearFaults tag (putHalf named)) s =
        .next (t.withReply 0x83 tag ([0] ++ putHalf flags ++ putHalf marks) .nothing) ∧
      t = { s with ctrl := { s.ctrl with flags := t.ctrl.flags } } ∧
      (∀ f : FaultFlag, t.flag f =
        if named.getLsbD (FlagPosition f) = true ∧ (s.flag f).set = true ∧ (s.flag f).reported = true ∧
            s.condition f = false
        then ⟨false, false⟩ else s.flag f) ∧
      FlagField flags (fun f => (t.flag f).set) ∧
      FlagField marks (fun f => (t.flag f).set && (t.flag f).reported)) ∧
  (∀ s : State,
    (s.condition .encLost = true ↔
      s.belt.source.kind = .estimate ∨ s.belt.source.kind = .confirming ∨ s.belt.source.kind = .lost) ∧
    (s.condition .trackHalt = true ↔ ∃ why, s.ctrl.line = .halted why) ∧
    (s.condition .railLow = true ↔ s.rail.state = .low) ∧
    (s.condition .eyeBlocked = true ↔ ∃ l : Fin 8, (s.lane l).state = .blocked .length) ∧
    ∀ f : FaultFlag, f ≠ .encLost → f ≠ .trackHalt → f ≠ .railLow → f ≠ .eyeBlocked → s.condition f = false) ∧
  (∀ (s : State) (f : FaultFlag), (s.flag f).set = false →
    s.occur f = (s.putFlag f ⟨true, false⟩).offer (.fault f))

/-- The part after a drop that set NOTICE_DROP, a queued notice having begun before the FAULT notice was offered (R172). -/
def DroppedThenQueued (s t : State) : Prop :=
  ∃ (n : Notice) (ns : List Notice) (o : List Nat), s.link.notices = n :: ns ∧
    t = { s.putFlag .noticeDrop ⟨true, false⟩ with
      link := { s.link with notices := ns ++ [.fault .noticeDrop], tx := .sending n.frame.bytes .nothing 0 }, order := o }

/-- An offer of a notice (R171): left out if masked, queued if there is room, else dropped with an occurrence of
NOTICE_DROP. An occurrence of a flag (R154): set with its mark clear; a clear flag offers FAULT, a set one offers
nothing; no other flag changes, but NOTICE_DROP when that FAULT notice finds the queue full. The FAULT notice of
NOTICE_DROP is left out if masked, dropped with the queue still full, and queued if the transmission of a queued notice
begins before it (R172); it can begin there if the transmitter is free and the reply slot empty (model's choice, log
14). -/
def Obligations.NoticesAreOfferedAndFlagsOccur : Prop :=
  (∀ (s : State) (n : Notice),
    (s.link.mask.getLsbD n.position = false → s.offer n = s) ∧
    (s.link.mask.getLsbD n.position = true → s.link.notices.length < 32 →
      s.offer n = { s with link := { s.link with notices := s.link.notices ++ [n] } }) ∧
    (s.link.mask.getLsbD n.position = true → 32 ≤ s.link.notices.length →
      let set := s.putFlag .noticeDrop ⟨true, false⟩
      ((s.flag .noticeDrop).set = true ∨ s.link.mask.getLsbD 7 = false ∨ s.link.tx ≠ .free ∨ s.link.slot ≠ none →
        s.offer n = set) ∧
      ((s.flag .noticeDrop).set = false → s.link.mask.getLsbD 7 = true → s.link.tx = .free → s.link.slot = none →
        ((∃ o, s.offer n = { set with order := o }) ∨ DroppedThenQueued s (s.offer n)) ∧
        (∃ o o', { s with order := o }.offer n = { set with order := o' }) ∧
        ∃ o, DroppedThenQueued { s with order := o } ({ s with order := o }.offer n)))) ∧
  (∀ (s : State) (f : FaultFlag),
    ((s.occur f).flag f = ⟨true, false⟩) ∧
    (∀ g : FaultFlag, g ≠ f → g ≠ .noticeDrop → (s.occur f).flag g = s.flag g) ∧
    ((s.flag f).set = true → s.occur f = s.putFlag f ⟨true, false⟩) ∧
    ((s.flag f).set = false → s.link.mask.getLsbD 7 = true → s.link.notices.length < 32 →
      (s.occur f).link.notices = s.link.notices ++ [.fault f] ∧
      ∀ g : FaultFlag, g ≠ f → (s.occur f).flag g = s.flag g) ∧
    ((s.flag f).set = false → s.link.mask.getLsbD 7 = false → s.occur f = s.putFlag f ⟨true, false⟩) ∧
    ((s.flag f).set = false → s.link.mask.getLsbD 7 = true → 32 ≤ s.link.notices.length →
      s.occur f = (s.putFlag f ⟨true, false⟩).offer (.fault f) ∧ (s.occur f).flag .noticeDrop = ⟨true, false⟩ ∧
      (s.link.tx ≠ .free ∨ s.link.slot ≠ none → (s.occur f).link = s.link)))

/-- SET_LINK stores the new settings with its OK reply, or is refused (R163, Table 9-7). -/
def Obligations.SetLinkStoresTheSettingsWithItsReply : Prop :=
  (∀ (s : State) (tag : Byte) (i : Fin 7) (j : Fin 3), s.linkReady →
    exec (.setLink tag [BitVec.ofNat 8 (i.val + 1), BitVec.ofNat 8 (j.val + 1)]) s =
      .next (s.withReply 0x84 tag [0] (.settings
        ⟨#v[.b9600, .b19200, .b57600, .b115200, .b230400, .b460800, .b921600][i], #v[.none, .even, .odd][j]⟩))) ∧
  (∀ (s : State) (tag b q : Byte), s.linkReady →
    (b = 0 ∨ 7 < b.toNat ∨ q = 0 ∨ 3 < q.toNat) →
    exec (.setLink tag [b, q]) s = .next (s.withReply 0x84 tag [3] .nothing))

/-- SET_NOTICES (R173). -/
def Obligations.SetNoticesSetsTheMask : Prop :=
  (∀ (s : State) (tag m : Byte), s.linkReady →
    exec (.setNotices tag [m]) s =
      .next ({ s with link := { s.link with mask := m } }.withReply 0x85 tag [0, m] .nothing)) ∧
  (∀ (s : State) (n : Notice), s.link.mask.getLsbD n.position = false → s.offer n = s) ∧
  (∀ (s : State) (n : Notice) (ns : List Notice), s.link.tx = .free → s.link.slot = none →
    s.link.notices = n :: ns → ∃ t, exec .transmitStart s = .next t ∧ t.link.tx = .sending n.frame.bytes .nothing 0) ∧
  (∀ (s : State) (cause : ResetCause) (settings : LinkSettings),
    (s.resetPart cause settings).link.mask = 0xFF)

/-- A request frame that cannot be executed yet waits; a third one is an occurrence of LINK_OVERRUN (R167, R168,
R177). -/
def Obligations.RequestsWaitAndOverrun : Prop :=
  ∀ (i : Instr) (f : Frame) (s : State), i.frame? = some f → (s.link.slot ≠ none ∨ s.link.hold = true) →
    (s.link.queue.length < 2 →
      exec i s = .next { s with link := { s.link with queue := s.link.queue ++ [f] } }) ∧
    (2 ≤ s.link.queue.length → exec i s = .next (s.occur .linkOverrun))

/-- Kind first, then payload size; the reply kind is 128 more, modulo 256, and the request tag comes back (R169). -/
def Obligations.UnknownKindAndWrongSizeAreAnswered : Prop :=
  ∀ (i : Instr) (f : Frame) (s : State), i.frame? = some f → s.linkReady →
    (RequestKind.ofCode? f.kind = none →
      exec i s = .next (s.withReply (f.kind + 128) f.tag [1] .nothing)) ∧
    (∀ k : RequestKind, RequestKind.ofCode? f.kind = some k → f.payload.length ≠ k.size →
      exec i s = .next (s.withReply (f.kind + 128) f.tag [2] .nothing))

/-- The bytes of every notice, as Tables 9-20 and 9-21 and R184 lay them out, under the kind codes of Table 9-3 and the
request tag 0. -/
structure NoticeLayouts : Prop where
  entered : ∀ tag (lane : Fin 8) leading trailing length est blk horizon exitAt,
    (Notice.itemEntered tag lane leading trailing length est blk horizon exitAt).frame =
      ⟨0x40, 0, put16 tag ++ put8 lane.val ++ putWord leading ++ putWord trailing ++ put16 length ++
        put8 ((if est = true then 1 else 0) + (if blk = true then 2 else 0)) ++ putWord horizon ++ putWord exitAt⟩
  discarded : ∀ (lane : Fin 8) tag,
    (Notice.itemDiscarded lane tag .short).frame = ⟨0x41, 0, put8 lane.val ++ put16 tag ++ [1]⟩ ∧
    (Notice.itemDiscarded lane tag .abandoned).frame = ⟨0x41, 0, put8 lane.val ++ put16 tag ++ [2]⟩ ∧
    (Notice.itemDiscarded lane tag .laneOff).frame = ⟨0x41, 0, put8 lane.val ++ put16 tag ++ [3]⟩
  defaulted : ∀ tag eject admitted, (Notice.itemDefaulted tag eject admitted).frame =
    ⟨0x42, 0, put16 tag ++ [if eject = true then 2 else 1, if admitted = true then 1 else 0]⟩
  retired : ∀ tag (lane : Fin 8) decision est (pairs : List (Fin 16 × TargetOutcome)), pairs.length ≤ 4 →
    (Notice.itemRetired tag lane decision est pairs).frame =
      ⟨0x43, 0, put16 tag ++ put8 lane.val ++ put8 decision.code ++ [if est = true then 1 else 0] ++
        put8 pairs.length ++ pairs.flatMap (fun q => put8 q.1.val ++ put8 q.2.code) ++
        List.replicate (8 - 2 * pairs.length) 0⟩
  valveEvent : ∀ (valve : Fin 16) cut missed,
    (Notice.valveOvertime valve cut missed).frame = ⟨0x44, 0, put8 valve.val ++ [1] ++ put8 cut ++ put16 missed⟩
  restart : (Notice.restart .powerOn).frame = ⟨0x45, 0, [1, 1, 0, 0, 0]⟩ ∧
    (Notice.restart .pin).frame = ⟨0x45, 0, [1, 2, 0, 0, 0]⟩ ∧ (Notice.restart .request).frame = ⟨0x45, 0, [1, 3, 0, 0, 0]⟩
  lineState : ∀ line records actions, (Notice.lineState line records actions).frame =
    ⟨0x45, 0, ([2] : List Byte) ++ (match line with
      | .config => [1, 0] | .armed => [2, 0] | .halted .loss => [3, 1] | .halted .limit => [3, 3]
      | .halted .gap => [3, 4] | .halted .silence => [3, 5]) ++ put8 records ++ put8 actions⟩
  source : ∀ cause, (Notice.source .lost (some cause)).frame =
      ⟨0x45, 0, [3, 5, match cause with | .loss => 1 | .runOff => 2 | .limit => 3 | .gap => 4, 0, 0]⟩
  sourceOther : (Notice.source .encoder none).frame = ⟨0x45, 0, [3, 1, 0, 0, 0]⟩ ∧
    (Notice.source .timed none).frame = ⟨0x45, 0, [3, 2, 0, 0, 0]⟩ ∧
    (Notice.source .estimate none).frame = ⟨0x45, 0, [3, 3, 0, 0, 0]⟩ ∧
    (Notice.source .confirming none).frame = ⟨0x45, 0, [3, 4, 0, 0, 0]⟩
  rail : (Notice.rail .normal).frame = ⟨0x45, 0, [4, 1, 0, 0, 0]⟩ ∧ (Notice.rail .low).frame = ⟨0x45, 0, [4, 2, 0, 0, 0]⟩
  motion : ∀ position, (Notice.motion .stopped position).frame = ⟨0x46, 0, [1] ++ putWord position⟩ ∧
    (Notice.motion .forward position).frame = ⟨0x46, 0, [2] ++ putWord position⟩ ∧
    (Notice.motion .reverse position).frame = ⟨0x46, 0, [3] ++ putWord position⟩
  fault : ∀ flag, (Notice.fault flag).frame = ⟨0x47, 0, put8 (FlagPosition flag)⟩
  outcomes : [TargetOutcome.pending, .active, .done, .missed, .cut, .cancelled, .notScheduled].map TargetOutcome.code =
    [1, 2, 3, 4, 5, 6, 7] ∧ [FinalDecision.verdict, .default, .cancel].map FinalDecision.code = [1, 2, 3]

/-- The bits of TXD (R162): high while the transmitter is free and behind the last stop bit; in each character of 10 or 11
bits a low start bit, the data bits with the least significant first, the parity bit that makes the number of high bits
even or odd, a high stop bit. -/
structure TxdLevels (l : Link) : Prop where
  free : l.tx = .free → l.txd = .high
  sending : ∀ (bytes : List Byte) (a : AfterFrame) (e : Nat), l.tx = .sending bytes a e →
    let n := if l.settings.parity = .none then 10 else 11
    let bit := e * l.settings.baud.rate / 1000000
    (bytes.length * n ≤ bit → l.txd = .high) ∧
    ∀ b : Byte, bytes[bit / n]? = some b →
      let ones := (List.range 8).countP (fun i => b.getLsbD i) + (if l.txd = .high then 1 else 0)
      (bit % n = 0 → l.txd = .low) ∧
      (∀ i, i < 8 → bit % n = i + 1 → (l.txd = .high ↔ b.getLsbD i = true)) ∧
      (bit % n = n - 1 → l.txd = .high) ∧
      (bit % n = 9 → l.settings.parity = .even → ones % 2 = 0) ∧
      (bit % n = 9 → l.settings.parity = .odd → ones % 2 = 1)

/-- The arbiter and the end of a frame (R174, R175, R163): with the hold mark set the reply goes out and no queued request
is executed behind it (R168, R177). And the bytes of a frame (R180) and of every notice (R183, R184),
and the level of TXD (R162). That the settings' entry into QUIET puts the idle timer at 0 is the model's choice (log
29), and so is that a frame's characters stand back to back (log 12). -/
def Obligations.TransmitterTakesReplyThenNotice : Prop :=
  (∀ (s : State) (r : Reply), s.link.tx = .free → s.link.slot = some r →
    (s.link.queue = [] ∨ s.link.hold = true) →
    exec .transmitStart s = .next { s with link := { s.link with
      slot := none, tx := .sending r.frame.bytes r.after 0 } }) ∧
  (∀ (s : State) (r : Reply) (f : Frame) (fs : List Frame), s.link.tx = .free → s.link.slot = some r →
    s.link.queue = f :: fs → s.link.hold = false →
    exec .transmitStart s = .next ({ s with link := { s.link with
      slot := none, tx := .sending r.frame.bytes r.after 0, queue := fs } }.execute f)) ∧
  (∀ (s : State) (n : Notice) (ns : List Notice), s.link.tx = .free → s.link.slot = none →
    s.link.notices = n :: ns →
    exec .transmitStart s = .next { s with link := { s.link with
      notices := ns, tx := .sending n.frame.bytes .nothing 0 } }) ∧
  (∀ s : State, s.link.tx = .free → s.link.slot = none → s.link.notices = [] → exec .transmitStart s = .next s) ∧
  (∀ (s : State) (b : List Byte) (a : AfterFrame) (e : Nat), s.link.tx = .sending b a e →
    exec .transmitStart s = .next s) ∧
  (∀ (s : State) (b : List Byte) (e : Nat), s.link.tx = .sending b .nothing e →
    exec .transmitEnd s = .next { s with link := { s.link with tx := .free } }) ∧
  (∀ (s : State) (b : List Byte) (l : LinkSettings) (e : Nat), s.link.tx = .sending b (.settings l) e →
    exec .transmitEnd s = .next { s with link := { s.link with tx := .free, settings := l, rx := .quiet 0 } }) ∧
  (∀ f : Frame, let covered := BitVec.ofNat 8 (2 + f.payload.length) :: f.kind :: f.tag :: f.payload
    f.bytes = 0xA5 :: (covered ++ putHalf (crc16 covered))) ∧
  NoticeLayouts ∧ (∀ l : Link, TxdLevels l) ∧
  ∀ (s : State) (cause : ResetCause) (settings : LinkSettings), (s.resetPart cause settings).link.txd = .high

/-! ### The receiver -/

/-- A received character has an error (R162): its stop bit is low, or under EVEN or ODD its parity bit does not make the
number of high bits even or odd. -/
def HasError (s : State) (b : Byte) (parityBit : Level) (stop : StopBit) : Prop :=
  let ones := (List.range 8).countP (fun i => b.getLsbD i) + (if parityBit = .high then 1 else 0)
  stop ≠ .high ∨ (s.link.settings.parity = .even ∧ ones % 2 = 1) ∨ (s.link.settings.parity = .odd ∧ ones % 2 = 0)

/-- The part with its receiver in a state behind a character: RXD idle behind a high stop bit, held low behind a low one
for as long as the line stays there. -/
def AfterCharacter (s : State) (stop : StopBit) (rx : Receiver) : State :=
  { s with
    pins := { s.pins with rxd := match stop with
      | .high => .idle
      | .low held => if held = 0 then .idle else .low held },
    link := { s.link with rx := rx } }

/-- A character in each receiver state (R162, R164, R165, R166). How RXD stands behind it is the model's choice (log 11). -/
def Obligations.CharactersBuildAFrame : Prop :=
  (∀ (s : State) (b : Byte) (bit : Level) (stop : StopBit) (i : Nat), s.link.rx = .quiet i →
    exec (.characterReceived b ⟨bit, stop⟩) s = .next (AfterCharacter s stop (.quiet 0))) ∧
  (∀ (s : State) (bit : Level) (stop : StopBit), s.link.rx = .hunt → ¬ HasError s 0xA5 bit stop →
    exec (.characterReceived 0xA5 ⟨bit, stop⟩) s = .next (AfterCharacter s stop (.receive [] 0))) ∧
  (∀ (s : State) (b : Byte) (bit : Level) (stop : StopBit), s.link.rx = .hunt → (b ≠ 0xA5 ∨ HasError s b bit stop) →
    exec (.characterReceived b ⟨bit, stop⟩) s = .next (AfterCharacter s stop .hunt)) ∧
  (∀ (s : State) (b len : Byte) (body : List Byte) (bit : Level) (stop : StopBit) (g : Nat) (got : List Byte),
    s.link.rx = .receive got g → ¬ HasError s b bit stop → got ++ [b] = len :: body →
    2 ≤ len.toNat → len.toNat ≤ 202 → body.length < len.toNat + 2 →
    exec (.characterReceived b ⟨bit, stop⟩) s = .next (AfterCharacter s stop (.receive (len :: body) 0)))

/-- The four errors of a frame: the frame is dropped, LINK_ERROR occurs, the receiver enters QUIET (R162, R165, R166). How
RXD stands behind the character, and that the row's command shares the receiver's rules, are the model's choices (log
11). -/
def Obligations.FrameErrorDropsTheFrame : Prop :=
  (∀ (s : State) (b : Byte) (bit : Level) (stop : StopBit) (got : List Byte) (g : Nat),
    s.link.rx = .receive got g → HasError s b bit stop →
    exec (.frameError b ⟨bit, stop⟩) s = .next ((AfterCharacter s stop (.quiet 0)).occur .linkError)) ∧
  (∀ (s : State) (b : Byte) (bit : Level) (stop : StopBit) (g : Nat),
    s.link.rx = .receive [] g → ¬ HasError s b bit stop → (b.toNat < 2 ∨ 202 < b.toNat) →
    exec (.frameError b ⟨bit, stop⟩) s = .next ((AfterCharacter s stop (.quiet 0)).occur .linkError)) ∧
  (∀ (s : State) (len c1 c2 : Byte) (covered : List Byte) (bit : Level) (stop : StopBit) (g : Nat),
    s.link.rx = .receive (len :: covered ++ [c1]) g → ¬ HasError s c2 bit stop →
    2 ≤ len.toNat → len.toNat ≤ 202 → covered.length = len.toNat → crc16 (len :: covered) ≠ c1 ++ c2 →
    exec (.frameError c2 ⟨bit, stop⟩) s = .next ((AfterCharacter s stop (.quiet 0)).occur .linkError))

/-- The character that completes a frame: its CRC agrees, the frame is offered to the receive queue, the receiver enters
HUNT (R165, R167, R180). RXD idle behind it, and the row's command sharing the receiver's rules, are the model's choices
(log 11). -/
def Obligations.FrameCompleteAcceptsTheFrame : Prop :=
  ∀ (s : State) (f : Frame) (got : List Byte) (last : Byte) (g : Nat), f.fits = true →
    f.bytes = 0xA5 :: (got ++ [last]) → s.link.rx = .receive got g →
    exec (.frameComplete last) s = .next ((AfterCharacter s .high .hunt).acceptFrame f)

/-- A whole frame received character by character from HUNT, each with a parity bit that matches, is accepted exactly as
it was sent, whatever its kind, tag and payload (R162, R164, R165, R167, R180); and the CRC is the manual's. RXD idle
behind the last character is the model's choice (log 11). -/
def Obligations.FrameReceivedByteByByteIsAccepted : Prop :=
  (∀ (s : State) (f : Frame) (bit : Byte → Level), f.fits = true → s.link.rx = .hunt →
    (∀ b, ¬ HasError s b (bit b) .high) →
    f.bytes.foldl (fun t b => t.receive b (bit b) .high) s = (AfterCharacter s .high .hunt).acceptFrame f) ∧
  (∀ (s : State) (b : Byte) (bit : Level) (stop : StopBit),
    exec (.characterReceived b ⟨bit, stop⟩) s = .next (s.receive b bit stop)) ∧
  crc16 [0x31, 0x32, 0x33, 0x34, 0x35, 0x36, 0x37, 0x38, 0x39] = 0x29B1

/-- The gap timer ends a frame in progress with no flag; the idle timer ends QUIET, and does not run while the line is held
low or a character is in progress (R165, R166). Each command acts whenever its timer runs (model's choice, log 2), the gap
timer's also while a character is in progress (model's choice, log 34). -/
def Obligations.GapAndIdleTimersReturnToHunt : Prop :=
  (∀ (s : State) (got : List Byte) (g : Nat), s.link.rx = .receive got g →
    exec .gapTimerExpiry s = .next { s with link := { s.link with rx := .hunt } }) ∧
  (∀ (s : State) (i : Nat), s.link.rx = .quiet i → s.pins.rxd = .idle →
    exec .idleTimerExpiry s = .next { s with link := { s.link with rx := .hunt } }) ∧
  (∀ (s : State) (i : Nat), s.link.rx = .quiet i → s.pins.rxd ≠ .idle → exec .idleTimerExpiry s = .next s) ∧
  (∀ s : State, s.link.rx = .hunt → exec .gapTimerExpiry s = .next s ∧ exec .idleTimerExpiry s = .next s)

/-! ### The line -/

/-- ARM (R144, R145): refused by line state, source and lanes in that order; accepted, every enabled lane becomes active,
and LINE_STATE ARMED is offered. That the reply fills its slot behind that offer is the model's choice (log 31). -/
def Obligations.ArmChecksThenActivatesTheEnabledLanes : Prop :=
  (∀ (s : State) (tag : Byte), s.linkReady → s.ctrl.line ≠ .config →
    exec (.arm tag []) s = .next (s.withReply 0x98 tag [4] .nothing)) ∧
  (∀ (s : State) (tag : Byte), s.linkReady → s.ctrl.line = .config → s.belt.source = .lost →
    exec (.arm tag []) s = .next (s.withReply 0x98 tag [4] .nothing)) ∧
  (∀ (s : State) (tag : Byte), s.linkReady → s.ctrl.line = .config → s.belt.source ≠ .lost →
    (∀ l : Fin 8, (s.lane l).cfg.enabled = false) →
    exec (.arm tag []) s = .next (s.withReply 0x98 tag [3] .nothing)) ∧
  (∀ (s : State) (tag : Byte) (l0 : Fin 8), s.linkReady → s.ctrl.line = .config → s.belt.source ≠ .lost →
    (s.lane l0).cfg.enabled = true →
    ∃ u : State,
      u = { s with ctrl := { s.ctrl with line := .armed }, lanes := { s.lanes with lanes := u.lanes.lanes } } ∧
      (∀ l : Fin 8, u.lane l =
        if (s.lane l).cfg.enabled then
          { s.lane l with state :=
              if (s.lane l).confirmed = (s.lane l).cfg.present then .blocked .activation else .clear }
        else s.lane l) ∧
      exec (.arm tag []) s = .next ((u.offer (.lineState .armed 0 0)).withReply 0x98 tag
        ([0] ++ put8 (allLanes.countP (fun l => (s.lane l).cfg.enabled)) ++
          put8 (allLanes.countP (fun l => (s.lane l).cfg.enabled &&
            (s.lane l).confirmed == (s.lane l).cfg.present))) .nothing))

/-- DISARM (R146): nothing in CONFIG; from ARMED and HALTED the line is emptied, and LINE_STATE CONFIG is offered with
the counts. That the reply fills its slot behind that offer is the model's choice (log 31). -/
def Obligations.DisarmEmptiesTheLine : Prop :=
  (∀ (s : State) (tag : Byte), s.linkReady → s.ctrl.line = .config →
    exec (.disarm tag []) s = .next (s.withReply 0x99 tag [0, 0, 0] .nothing)) ∧
  (∀ (s : State) (tag : Byte), s.linkReady → s.ctrl.line ≠ .config →
    ∃ u : State, LeftArmed s u ∧ u.ctrl = { s.ctrl with line := .config } ∧
      exec (.disarm tag []) s = .next
        ((u.offer (.lineState .config s.table.records.length s.slotsInUse)).withReply 0x99 tag
          ([0] ++ put8 s.table.records.length ++ put8 s.slotsInUse) .nothing))

/-- HALTED entry (R148, R149): which source events halt an ARMED line, and what the halt leaves; nothing happens to a
line that is not ARMED. -/
def Obligations.HaltingSourceEventsHaltAnArmedLine : Prop :=
  let halts (s : State) (why : HaltCause) (after : State) : Prop :=
    ∃ u : State, LeftArmed s u ∧ u.ctrl = { s.ctrl with line := .halted why } ∧
      after = (u.occur .trackHalt).offer (.lineState (.halted why) s.table.records.length s.slotsInUse)
  ∀ s : State,
    (s.ctrl.line = .armed → halts s .limit (s.takeLost .limit) ∧ halts s .loss (s.takeLost .loss) ∧
      halts s .silence s.takeSilence ∧ s.takeLost .runOff = s ∧
      (s.belt.run = true → halts s .gap (s.takeLost .gap)) ∧ (s.belt.run = false → s.takeLost .gap = s)) ∧
    (s.ctrl.line ≠ .armed → (∀ cause, s.takeLost cause = s) ∧ s.takeSilence = s)

/-! ### SET_LINE and SET_POSITION -/

/-- SET_LINE is refused with STATE outside CONFIG, whatever it carries, and with BAD_VALUE in CONFIG if a field is out of
the ranges of Table 1-2; a payload built from parameters in range is read back as those parameters (R3, Table 9-8). -/
def Obligations.SetLineChecksStateThenRanges : Prop :=
  (∀ (s : State) (tag : Byte) (p : List Byte), s.linkReady → p.length = 15 → s.ctrl.line ≠ .config →
    exec (.setLine tag p) s = .next (s.withReply 0x90 tag [4] .nothing)) ∧
  (∀ (s : State) (tag mode pol rev : Byte) (loss stop est : Half) (speed : Pos) (pwm : Half),
    s.linkReady → s.ctrl.line = .config →
    (mode = 0 ∨ 3 < mode.toNat ∨ pol = 0 ∨ 2 < pol.toNat ∨ rev = 0 ∨ loss = 0 ∨ 1000 < loss.toNat ∨
      stop = 0 ∨ 1000 < stop.toNat ∨ est.toNat < 10 ∨ 5000 < est.toNat ∨ speed = 0 ∨ 200000 < speed.toNat ∨
      pwm.toNat < 20 ∨ 1000 < pwm.toNat) →
    exec (.setLine tag ([mode, pol, rev] ++ putHalf loss ++ putHalf stop ++ putHalf est ++ putWord speed ++
      putHalf pwm)) s = .next (s.withReply 0x90 tag [3] .nothing)) ∧
  (∀ q : LineParams, q.wf → parseLine q.payload = some q)

/-- The Valve Drive after it has been handed a PWM period (R124): the base from 0 under the new period, the pending duty
current at valve 0 alone, whose period starts there, and a holding output by its place in its new periods. That the
pending duty of a valve 0 in the HOLD phase of TEST becomes current at the restart is the model's choice (log 30). -/
structure PwmRestarted (w u : State) (period : Nat) : Prop where
  rest : u = { w with drive := { w.drive with valves := u.drive.valves, period := period, base := 0 } }
  valves : ∀ v : Fin 16,
    let x := w.valve v
    let duty := if v = 0 then x.pendingDuty else x.duty
    let place := (0 + period - v.val * period / 16) % period
    u.valve v = { x with
      duty := duty, out := if x.holding = true then decide (place < period * duty / 64) else x.out }

/-- An accepted SET_LINE that changes the encoder mode restarts the counting (R5), the source change and then the motion change
are handed with their notices (R17, R26), and then the Valve Drive takes the PWM period and starts its base again (R124; in the HOLD phase of TEST,
valve 0's duty as log 30 chooses). -/
def Obligations.SetLineNewModeRestartsCounting : Prop :=
  ∀ (s : State) (tag : Byte) (q : LineParams), s.linkReady → s.ctrl.line = .config → q.wf → s.handedWf →
    s.noneCarrying → q.mode ≠ s.belt.par.mode →
    ∃ w u : State, exec (.setLine tag q.payload) s = .next (u.withReply 0x90 tag [0] .nothing) ∧
      PwmRestarted w u q.pwmPeriod ∧ u.handedWf ∧
      w.belt =
        { par := q, encRef := none,
          gen := if q.mode = .timed ∧ RunThrough s.belt.runFiltered q.polarity = true then some 0 else none,
          runFiltered := s.belt.runFiltered, runTimer := s.belt.runTimer,
          run := RunThrough s.belt.runFiltered q.polarity, position := s.belt.position, motion := .stopped, acc := 0,
          stopTimer := none,
          lossTimer := if q.mode ≠ .timed ∧ RunThrough s.belt.runFiltered q.polarity = true then some 0 else none,
          limitTimer := none, limitExpired := false, silenceTimer := none, restart := false, history := [],
          last := none, frozen := 0, source := if q.mode = .timed then .timed else .encoder } ∧
      w.drive = { s.drive with motion := .stopped } ∧ w.ctrl.line = .config ∧ w.table = s.table ∧ w.sched = s.sched ∧
      w.pins = s.pins ∧ (∀ l : Fin 8, w.lane l = s.lane l) ∧ Framed s w [] ∧
      ∃ x : State, HandsSource { s with belt := w.belt } s.belt.source.kind x ∧ HandsMotion x s.belt.motion w

/-- What SET_LINE may bring about at once in the same mode: RUN through the polarity unlike RUN, or a running timer at or
past its value (R4). -/
def LineDue (b : Belt) : LineEffect → Prop
  | .run => RunThrough b.runFiltered b.par.polarity ≠ b.run
  | .stop => ∃ e, b.stopTimer = some e ∧ b.par.stopTime * 1000 ≤ e
  | .loss => ∃ e, b.lossTimer = some e ∧ b.par.lossTime * 1000 ≤ e
  | .limit => ∃ e, b.limitTimer = some e ∧ b.par.estimateLimit * 1000 ≤ e
  | .gap => ∃ c, b.source = .confirming c ∧ b.par.lossTime * 1000 < c.gap
  | .silence => ∃ e, b.silenceTimer = some e ∧ b.par.lossTime * 1000 ≤ e

/-- The command that brings the same about by itself. -/
def EffectCommand (level : Level) : LineEffect → Instr
  | .run => .runChange level
  | .stop => .stopTimerExpiry
  | .loss => .lossTimerExpiry
  | .limit => .limitTimerExpiry
  | .gap => .confirmingGap
  | .silence => .silenceTimerExpiry

/-- An accepted SET_LINE in the same encoder mode (R4): the belt keeps all but the parameters and the accumulator; with RUN
changed by the new polarity, or one running timer at or past its new value, the effect of that event follows at once;
then the Valve Drive takes the PWM period and starts its base again (R124; in the HOLD phase of TEST, valve 0's duty as
log 30 chooses). The order of several effects due together is open (log 4) and not stated. -/
def Obligations.SetLineSameModeKeepsTheBelt : Prop :=
  ∀ (s : State) (tag : Byte) (q : LineParams), s.linkReady → s.ctrl.line = .config → q.wf →
    q.mode = s.belt.par.mode →
    let s1 : State := { s with belt := { s.belt with par := q, acc := 0 } }
    ((∀ e, ¬ LineDue s1.belt e) →
      ∃ u : State, exec (.setLine tag q.payload) s = .next (u.withReply 0x90 tag [0] .nothing) ∧
        PwmRestarted s1 u q.pwmPeriod) ∧
    (∀ e, LineDue s1.belt e → (∀ e', LineDue s1.belt e' → e' = e) →
      ∃ w u : State, exec (EffectCommand s.belt.runFiltered e) s1 = .next w ∧
        exec (.setLine tag q.payload) s = .next (u.withReply 0x90 tag [0] .nothing) ∧
        PwmRestarted { w with belt := { w.belt with runTimer := s.belt.runTimer },
                              pins := s.pins } u q.pwmPeriod)

/-- SET_POSITION (R13): STATE outside CONFIG; in CONFIG one update of kind SET reaches every receiver, with motion,
source and speed as they are, and nothing else changes. -/
def Obligations.SetPositionHandsOneUpdate : Prop :=
  (∀ (s : State) (tag : Byte) (p : Pos), s.linkReady → s.ctrl.line ≠ .config →
    exec (.setPosition tag (putWord p)) s = .next (s.withReply 0x94 tag [4] .nothing)) ∧
  (∀ (s : State) (tag : Byte) (p : Pos), s.linkReady → s.ctrl.line = .config → s.lineWf →
    ∃ u : State, exec (.setPosition tag (putWord p)) s = .next (u.withReply 0x94 tag [0] .nothing) ∧
      u = { s with
        belt := { s.belt with position := p },
        lanes := { s.lanes with position := p, motion := s.belt.motion, source := s.belt.source.kind },
        table := { s.table with position := p, motion := s.belt.motion },
        sched := { s.sched with position := p, motion := s.belt.motion, speed := s.belt.speed,
                                advances := u.sched.advances },
        order := u.order } ∧
      ∀ v : Fin 16, u.advance v =
        ⟨min ((s.valve v).cfg.openLatency * s.belt.speed / 1000000) 65535,
         min ((s.valve v).cfg.closeLatency * s.belt.speed / 1000000) 65535⟩)

/-! ### Counting -/

/-- The forward order of pairs, each pair with the one after it (R7). -/
def ForwardSteps : List (EncPair × EncPair) :=
  [(⟨.low, .low⟩, ⟨.high, .low⟩), (⟨.high, .low⟩, ⟨.high, .high⟩), (⟨.high, .high⟩, ⟨.low, .high⟩),
   (⟨.low, .high⟩, ⟨.low, .low⟩)]

/-- The new pair is the reference and the level of the pins, with nothing counted. -/
def NewReference (s : State) (p : EncPair) : State :=
  { s with belt := { s.belt with encRef := some p }, pins := { s.pins with enc := p } }

/-- A sample in the mode QUADRATURE (R7); the same for the command of a count and for that of a phase error (model's
reading, log 8). In TIMED the inputs are not sampled (R9). -/
def Obligations.QuadratureSampleCountsOneStep : Prop :=
  ∀ (s : State) (a b : Level) (i : Instr), (i = .quadratureCount a b ∨ i = .encPhase a b) →
    (s.belt.par.mode = .quadrature → s.belt.encRef = none → exec i s = .next (NewReference s ⟨a, b⟩)) ∧
    (∀ r : EncPair, s.belt.par.mode = .quadrature → s.belt.encRef = some r →
      (r = ⟨a, b⟩ → exec i s = .next (NewReference s ⟨a, b⟩)) ∧
      ((r, ⟨a, b⟩) ∈ ForwardSteps → exec i s = .next ((NewReference s ⟨a, b⟩).takeCount .forward)) ∧
      ((⟨a, b⟩, r) ∈ ForwardSteps → exec i s = .next ((NewReference s ⟨a, b⟩).takeCount .reverse)) ∧
      (r.a ≠ a → r.b ≠ b → exec i s = .next ((NewReference s ⟨a, b⟩).occur .encPhase))) ∧
    (s.belt.par.mode = .timed → exec i s = .next { s with pins := { s.pins with enc := ⟨a, b⟩ } })

/-- A sample in the mode PULSE_DIR (R8): a rising ENC_A is one count, forward with ENC_B low; everything else makes no
count. In TIMED the inputs are not sampled (R9). The command sets the pins (model's choice, log 8). -/
def Obligations.PulseDirSampleCountsRisingEncA : Prop :=
  ∀ (s : State) (b : Level),
    (∀ r : EncPair, s.belt.par.mode = .pulseDir → s.belt.encRef = some r → r.a = .low →
      exec (.pulseDirCount b) s = .next ((NewReference s ⟨.high, b⟩).takeCount
        (if b = .low then .forward else .reverse))) ∧
    (∀ r : EncPair, s.belt.par.mode = .pulseDir → s.belt.encRef = some r → r.a = .high →
      exec (.pulseDirCount b) s = .next (NewReference s ⟨.high, b⟩)) ∧
    (s.belt.par.mode = .pulseDir → s.belt.encRef = none →
      exec (.pulseDirCount b) s = .next (NewReference s ⟨.high, b⟩)) ∧
    (s.belt.par.mode = .pulseDir → exec (.fallingEncA b) s = .next (NewReference s ⟨.low, b⟩)) ∧
    (s.belt.par.mode = .timed →
      exec (.pulseDirCount b) s = .next { s with pins := { s.pins with enc := ⟨.high, b⟩ } } ∧
      exec (.fallingEncA b) s = .next { s with pins := { s.pins with enc := ⟨.low, b⟩ } })

/-- Each count moves the belt position by one, modulo 4,294,967,296, whatever the motion state and the source; after any
reset it is 0 (R11). -/
def Obligations.EveryCountMovesThePositionByOne : Prop :=
  (∀ s : State, (s.countEncoder .forward).belt.position = s.belt.position + 1 ∧
    (s.countEncoder .reverse).belt.position = s.belt.position - 1 ∧
    (s.takeCount .forward).belt.position = s.belt.position + 1 ∧
    (s.takeCount .reverse).belt.position = s.belt.position - 1) ∧
  (∀ (s : State) (k : UpdateKind), (s.countGenerated k).belt.position = s.belt.position + 1) ∧
  ((4294967295 : Pos) + 1 = 0 ∧ (0 : Pos) - 1 = 4294967295) ∧
  (∀ (s : State) (cause : ResetCause) (l : LinkSettings), (s.resetPart cause l).belt.position = 0)

/-- The accumulator decides the motion state (R14, R15): in STOPPED net travel against plus and minus the threshold, in
FORWARD and REVERSE travel against the motion, never below 0. The update that a count hands carries the motion after it
(R12). Stated for the accumulators the belt's invariant allows. -/
def Obligations.AccumulatorDecidesTheMotion : Prop :=
  ∀ (s : State) (d : Dir), s.belt.accWf → 1 ≤ s.belt.par.reversal →
    let t := s.countEncoder d
    let threshold : Int := s.belt.par.reversal
    t.lanes.motion = t.belt.motion ∧ t.sched.motion = t.belt.motion ∧ t.table.motion = t.belt.motion ∧
    (s.belt.motion = .stopped → d = .forward →
      (s.belt.acc + 1 = threshold → t.belt.motion = .forward ∧ t.belt.acc = 0) ∧
      (s.belt.acc + 1 ≠ threshold → t.belt.motion = .stopped ∧ t.belt.acc = s.belt.acc + 1)) ∧
    (s.belt.motion = .stopped → d = .reverse →
      (s.belt.acc - 1 = -threshold → t.belt.motion = .reverse ∧ t.belt.acc = 0) ∧
      (s.belt.acc - 1 ≠ -threshold → t.belt.motion = .stopped ∧ t.belt.acc = s.belt.acc - 1)) ∧
    (s.belt.motion = .forward → d = .forward →
      t.belt.motion = .forward ∧ t.belt.acc = if 0 < s.belt.acc then s.belt.acc - 1 else 0) ∧
    (s.belt.motion = .forward → d = .reverse →
      (s.belt.acc + 1 = threshold → t.belt.motion = .reverse ∧ t.belt.acc = 0) ∧
      (s.belt.acc + 1 ≠ threshold → t.belt.motion = .forward ∧ t.belt.acc = s.belt.acc + 1)) ∧
    (s.belt.motion = .reverse → d = .reverse →
      t.belt.motion = .reverse ∧ t.belt.acc = if 0 < s.belt.acc then s.belt.acc - 1 else 0) ∧
    (s.belt.motion = .reverse → d = .forward →
      (s.belt.acc + 1 = threshold → t.belt.motion = .forward ∧ t.belt.acc = 0) ∧
      (s.belt.acc + 1 ≠ threshold → t.belt.motion = .reverse ∧ t.belt.acc = s.belt.acc + 1))

/-- An encoder count is timed: an interval for a count in the direction of the one before it, the last 8 kept, none longer
than 1,000,000 µs; and the speed measured from n intervals (R18, R19, Table 1-4). With a sum of 0 µs the model gives
500,000 (model's choice, log 9). -/
def Obligations.CountsAreTimedForTheSpeed : Prop :=
  (∀ (s : State) (d : Dir),
    let t := s.countEncoder d
    t.belt.last = some ⟨d, s.now⟩ ∧
    (∀ l : LastCount, s.belt.last = some l → l.dir = d →
      t.belt.history =
        (if s.belt.history.length < 8 then s.belt.history else s.belt.history.drop 1) ++
          [min (s.now - l.time) 1000000]) ∧
    (∀ l : LastCount, s.belt.last = some l → l.dir ≠ d → t.belt.history = s.belt.history) ∧
    (s.belt.last = none → t.belt.history = s.belt.history)) ∧
  (∀ h : List Nat, 0 < h.sum → measuredSpeed h = min (h.length * 1000000 / h.sum) 500000) ∧
  (measuredSpeed [] = 0) ∧ (∀ h : List Nat, h ≠ [] → h.sum = 0 → measuredSpeed h = 500000) ∧
  (∀ b : Belt,
    (b.motion = .stopped → b.speed = 0) ∧
    (b.motion ≠ .stopped → b.source = .encoder → b.speed = measuredSpeed b.history) ∧
    (b.motion = .forward → b.source = .timed → b.speed = b.par.timedSpeed) ∧
    (b.motion = .forward → b.source = .estimate → b.speed = b.frozen) ∧
    (∀ c, b.motion = .forward → b.source = .confirming c → c.origin = .estimate → b.speed = b.frozen) ∧
    (∀ c, b.motion = .reverse → b.source = .confirming c → b.speed = measuredSpeed b.history) ∧
    (∀ c, b.motion = .forward → b.source = .confirming c → c.origin = .lost → b.speed = measuredSpeed b.history))

/-- What a count does to the source (R22, R23, R25): ESTIMATE and LOST enter CONFIRMING with their origin and count 1, a
further count within the loss time after the one before raises the count, the fourth enters ENCODER with its timers and
marks as R23 gives; ENCODER stays and its loss timer restarts (R20). And what no such count changes. A count later than
the loss time finds the CONFIRMING failed (R24) and is the first of another (model's reading, log 20). A count hands its
source change, its motion change and its update in this order, with their notices (R12, R17, R26; log 32). -/
def Obligations.FourCountsConfirmTheEncoder : Prop :=
  (∀ (s : State) (d : Dir), (∀ c, s.belt.source = .confirming c → c.gap ≤ s.belt.par.lossTime * 1000) →
    let t := s.takeCount d
    t = s.countEncoder d ∧
    Framed s t [.eyeBlocked, .schedFull] ∧ t.pins = s.pins ∧ t.ctrl.line = s.ctrl.line ∧
    t.belt.par = s.belt.par ∧ t.belt.run = s.belt.run ∧ t.belt.encRef = s.belt.encRef ∧
    (s.belt.source = .estimate →
      t.belt.source = .confirming ⟨.estimate, 1, 0⟩ ∧ t.belt.gen = none ∧ t.belt.frozen = s.belt.frozen ∧
      t.belt.limitTimer = s.belt.limitTimer) ∧
    (s.belt.source = .lost → t.belt.source = .confirming ⟨.lost, 1, 0⟩) ∧
    (∀ c : Confirmation, s.belt.source = .confirming c → c.count < 3 →
      t.belt.source = .confirming ⟨c.origin, c.count + 1, 0⟩ ∧ t.belt.frozen = s.belt.frozen ∧
      t.belt.limitTimer = s.belt.limitTimer ∧ t.belt.limitExpired = s.belt.limitExpired) ∧
    (∀ c : Confirmation, s.belt.source = .confirming c → c.count = 3 →
      t.belt.source = .encoder ∧ t.belt.limitTimer = none ∧ t.belt.limitExpired = false ∧ t.belt.frozen = 0 ∧
      t.belt.restart = false ∧ t.belt.lossTimer = if s.belt.run then some 0 else none) ∧
    (s.belt.source = .encoder →
      t.belt.source = .encoder ∧ t.belt.lossTimer = if s.belt.run then some 0 else none)) ∧
  (∀ (s : State) (d : Dir) (c : Confirmation), s.belt.source = .confirming c → s.belt.par.lossTime * 1000 < c.gap →
    ∃ u : State, exec .confirmingGap s = .next u ∧ (u.belt.source = .estimate ∨ u.belt.source = .lost) ∧
      s.takeCount d = u.countEncoder d ∧
      (u.belt.source = .estimate → (s.takeCount d).belt.source = .confirming ⟨.estimate, 1, 0⟩) ∧
      (u.belt.source = .lost → (s.takeCount d).belt.source = .confirming ⟨.lost, 1, 0⟩)) ∧
  (∀ (s : State) (d : Dir), let t := s.countEncoder d
    ∃ x y : State, HandsSource { s with belt := t.belt } s.belt.source.kind x ∧ HandsMotion x s.belt.motion y ∧
      t = y.handUpdate .encoder)

/-- TIMED_STEP and ESTIMATED_STEP (R9, R15, R21, R27): with the generator of that source running, one forward count by that
source, which in FORWARD lowers an accumulator above 0 and keeps one of 0, and which hands a motion change with its notice before
its update (R12, R17); without it nothing. The step comes when the command says (model's choice, log 2). -/
def Obligations.GeneratedStepsMoveForward : Prop :=
  (∀ (s : State) (f : Nat), s.belt.source = .timed → s.belt.gen = some f →
    ∃ t : State, exec .timedStep s = .next t ∧ t.belt.position = s.belt.position + 1 ∧
      t.belt.gen = some (f - 1000000) ∧ t.belt.source = .timed ∧ t.belt.history = s.belt.history ∧
      (s.belt.motion = .stopped → s.belt.acc + 1 < s.belt.par.reversal →
        t.belt.motion = .stopped ∧ t.belt.acc = s.belt.acc + 1) ∧
      (s.belt.motion = .stopped → s.belt.acc + 1 = s.belt.par.reversal →
        t.belt.motion = .forward ∧ t.belt.acc = 0) ∧
      (s.belt.motion = .forward → t.belt.motion = .forward) ∧
      (∃ x : State, HandsMotion { s with belt := t.belt } s.belt.motion x ∧ t = x.handUpdate .timed) ∧
      Framed s t [.eyeBlocked, .schedFull] ∧ t.pins = s.pins ∧ t.ctrl.line = s.ctrl.line ∧
      t.lanes.position = t.belt.position ∧ t.table.position = t.belt.position ∧
      t.sched.position = t.belt.position) ∧
  (∀ (s : State) (f : Nat), s.belt.source = .estimate → s.belt.gen = some f → s.belt.motion = .forward →
    0 ≤ s.belt.acc →
    ∃ t : State, exec .estimatedStep s = .next t ∧
      t.belt = { s.belt with
        position := s.belt.position + 1, gen := some (f - 1000000),
        acc := if s.belt.acc = 0 then 0 else s.belt.acc - 1 } ∧
      t = { s with belt := t.belt }.handUpdate .estimated ∧
      Framed s t [.eyeBlocked, .schedFull] ∧ t.pins = s.pins ∧ t.ctrl.line = s.ctrl.line ∧
      t.lanes.position = t.belt.position ∧ t.table.position = t.belt.position ∧
      t.sched.position = t.belt.position) ∧
  (∀ s : State, (s.belt.source ≠ .timed ∨ s.belt.gen = none) → exec .timedStep s = .next s) ∧
  (∀ s : State, (s.belt.source ≠ .estimate ∨ s.belt.gen = none) → exec .estimatedStep s = .next s)

/-! ### RUN and the timers of the belt -/

/-- The part with the filter at a new level and the RUN pin there. -/
def Filtered (s : State) (level : Level) (b : Belt) : State :=
  { s with belt := { b with runFiltered := level, runTimer := 0 }, pins := { s.pins with run := level } }

/-- The RUN pin has held a level for 1 ms (R10): RUN as the polarity maps it; what a change does in each source (R9, R16,
R20, R22, R24, R25), and how it hands a motion change and a loss with cause RUN_OFF (R17, R26). The command sets the pin (model's choice, log 25). -/
def Obligations.RunChangeActsByItsSource : Prop :=
  ∀ (s : State) (level : Level),
    let run := RunThrough level s.belt.par.polarity
    (run = s.belt.run → exec (.runChange level) s = .next (Filtered s level s.belt)) ∧
    (run = true → s.belt.run = false →
      let on : Belt := { s.belt with run := true, stopTimer := none }
      (s.belt.source = .encoder → exec (.runChange level) s = .next (Filtered s level { on with lossTimer := some 0 })) ∧
      (s.belt.source = .timed → exec (.runChange level) s = .next (Filtered s level { on with gen := some 0 })) ∧
      (s.belt.source = .lost → exec (.runChange level) s =
        .next (Filtered s level { on with restart := true, silenceTimer := some 0 })) ∧
      (∀ c : Confirmation, s.belt.source = .confirming c → c.origin = .lost →
        exec (.runChange level) s = .next (Filtered s level { on with restart := true }))) ∧
    (run = false → s.belt.run = true →
      let off : Belt := { s.belt with run := false, restart := false, silenceTimer := none, lossTimer := none }
      (s.belt.source = .encoder → exec (.runChange level) s = .next (Filtered s level
        { off with stopTimer := if s.belt.motion = .stopped then none else some 0 })) ∧
      (s.belt.source = .lost → exec (.runChange level) s = .next (Filtered s level off)) ∧
      (s.belt.source = .timed → ∃ t : State, exec (.runChange level) s = .next t ∧ t.belt.run = false ∧
        t.belt.gen = none ∧ t.belt.motion = .stopped ∧ t.belt.source = .timed ∧
        t.belt.position = s.belt.position ∧ t.ctrl.line = s.ctrl.line ∧ Framed s t [] ∧
        HandsMotion (Filtered s level t.belt) s.belt.motion t) ∧
      (s.belt.source = .estimate ∨ (∃ c, s.belt.source = .confirming c) →
        ∃ t : State, exec (.runChange level) s = .next t ∧ t.belt.run = false ∧ t.belt.source = .lost ∧
          t.belt.motion = .stopped ∧ t.belt.gen = none ∧ t.belt.limitTimer = none ∧ t.belt.limitExpired = false ∧
          t.belt.history = [] ∧ t.belt.position = s.belt.position ∧ t.lanes.source = .lost ∧
          t.ctrl.line = s.ctrl.line ∧ Framed s t [] ∧
          HandsLost (Filtered s level t.belt) .runOff s.belt.motion t))

/-- What MOTION_CUT does when the motion leaves FORWARD (R107, R129): every valve in PULL_IN or HOLD is IDLE with its output
off, its pull-in timer 0 and its active time held; its queue keeps its QUEUED actions; the contributions of its OPEN
action are CUT in their records. Every other valve, queue and outcome stays, a test among them. -/
structure CutByMotion (s t : State) : Prop where
  cut : ∀ v : Fin 16, (s.valve v).carrying = true →
    t.valve v = { s.valve v with state := .idle, out := false, pull := 0 } ∧
    t.queue v = (s.queue v).filter (fun a => a.state == .queued)
  kept : ∀ v : Fin 16, (s.valve v).carrying = false → t.valve v = s.valve v ∧ t.queue v = s.queue v
  outcomes : t.table = s.table.withOutcomes (served .cut
    ((allValves.filter (fun v => (s.valve v).carrying)).flatMap (fun v => openContribs (s.queue v))))
  rest : t.sched = { s.sched with queues := t.sched.queues } ∧
    t.drive = { s.drive with valves := t.drive.valves, motion := t.drive.motion }

/-- The stop timer reaches the stop time (R16, R17, R129): STOPPED, the accumulator 0, the history empty, the change handed
on; from FORWARD the open actions are cut; with the timer stopped nothing. The command acts whenever the timer runs
(model's choice, log 2). And every motion change that leaves FORWARD cuts in the same way. -/
def Obligations.StopTimerExpiryStopsTheBelt : Prop :=
  (∀ (s : State) (e : Nat), s.belt.stopTimer = some e → s.belt.motion ≠ .stopped → s.handedWf →
    ∃ t : State, exec .stopTimerExpiry s = .next t ∧
      t.belt = { s.belt with motion := .stopped, acc := 0, history := [], last := none, stopTimer := none } ∧
      HandsMotion { s with belt := t.belt } s.belt.motion t ∧
      t.handedWf ∧ Framed s t [] ∧ t.pins = s.pins ∧ t.ctrl.line = s.ctrl.line ∧ (∀ l : Fin 8, t.lane l = s.lane l) ∧
      (s.belt.motion = .forward → CutByMotion s t) ∧
      (s.belt.motion = .reverse → t.table = s.table ∧ t.sched = s.sched ∧ ∀ v : Fin 16, t.valve v = s.valve v)) ∧
  (∀ s : State, s.belt.stopTimer = none → exec .stopTimerExpiry s = .next s) ∧
  (∀ (s : State) (new : Motion), new ≠ .forward →
    CutByMotion s (s.driveMotion .forward new) ∧ (s.driveMotion .forward new).drive.motion = new) ∧
  (∀ (s : State) (old new : Motion), (old ≠ .forward ∨ new = .forward) →
    s.driveMotion old new = { s with drive := { s.drive with motion := new } })

/-- The loss timer reaches the loss time (R20, R21, R26, R148): ENC_LOST; ESTIMATE with the speed frozen if the belt runs
forward at a speed above 0, else LOST with cause LOSS, which halts an ARMED line; ENC_LOST stands before the notice of the
source change, and this before the halt and the motion change (R17, R149, R160); with the timer stopped nothing. The
command acts whenever the timer runs (model's choice, log 2). -/
def Obligations.LossTimerExpiryEstimatesOrLoses : Prop :=
  (∀ (s : State) (e : Nat), s.belt.lossTimer = some e → s.belt.motion = .forward → 0 < s.belt.speed →
    ∃ t : State, exec .lossTimerExpiry s = .next t ∧
      t.belt = { s.belt with source := .estimate, frozen := s.belt.speed, gen := some 0, history := [], last := none,
                             limitTimer := some 0, limitExpired := false, lossTimer := none, stopTimer := none } ∧
      t.flag .encLost = ⟨true, false⟩ ∧ t.lanes = { s.lanes with source := .estimate } ∧ t.table = s.table ∧
      t.sched = s.sched ∧ t.drive = s.drive ∧ Framed s t [.encLost] ∧ t.pins = s.pins ∧
      t.ctrl.line = s.ctrl.line ∧ HandsSource ({ s with belt := t.belt }.occur .encLost) .encoder t) ∧
  (∀ (s : State) (e : Nat), s.belt.lossTimer = some e → (s.belt.motion ≠ .forward ∨ s.belt.speed = 0) →
    ∃ t : State, exec .lossTimerExpiry s = .next t ∧ t.belt.source = .lost ∧ t.belt.motion = .stopped ∧
      t.belt.position = s.belt.position ∧ t.belt.speed = 0 ∧ t.belt.gen = none ∧ t.belt.lossTimer = none ∧
      t.flag .encLost = ⟨true, false⟩ ∧ t.lanes.source = .lost ∧
      HandsLost { s.occur .encLost with belt := t.belt } .loss s.belt.motion t ∧
      Framed s t [.encLost, .trackHalt] ∧ t.pins = s.pins ∧
      t.ctrl.line = if s.ctrl.line = .armed then .halted .loss else s.ctrl.line) ∧
  (∀ s : State, s.belt.lossTimer = none → exec .lossTimerExpiry s = .next s)

/-- The limit timer (R22, R23), the confirming gap (R24) and the silence timer (R25), with the cause that each loss is handed
with, its notices (R17, R26) and the halt that the Line Controller makes of it (R148, R149). Each command acts whenever its timer runs (model's choice, log 2); a failure that brings SILENCE with it ends
in GAP or SILENCE (logs 4, 17) and clears the restart mark (model's choice, log 33). -/
def Obligations.LimitGapAndSilenceEndTheEstimate : Prop :=
  let lost (s t : State) (line : LineState) : Prop :=
    t.belt.source = .lost ∧ t.belt.motion = .stopped ∧ t.belt.position = s.belt.position ∧ t.belt.gen = none ∧
    t.belt.history = [] ∧ t.belt.limitTimer = none ∧ t.belt.limitExpired = false ∧ t.lanes.source = .lost ∧
    Framed s t [.trackHalt] ∧ t.pins = s.pins ∧ t.ctrl.line = line
  let halted (s : State) (why : HaltCause) : LineState := if s.ctrl.line = .armed then .halted why else s.ctrl.line
  let handed (s t : State) (cause : LostCause) : Prop :=
    HandsLost { s with belt := t.belt } cause s.belt.motion t
  (∀ (s : State) (e : Nat), s.belt.limitTimer = some e → s.belt.source = .estimate →
    ∃ t, exec .limitTimerExpiry s = .next t ∧ lost s t (halted s .limit) ∧ handed s t .limit) ∧
  (∀ (s : State) (e : Nat) (c : Confirmation), s.belt.limitTimer = some e → s.belt.source = .confirming c →
    exec .limitTimerExpiry s = .next { s with belt := { s.belt with limitTimer := none, limitExpired := true } }) ∧
  (∀ s : State, s.belt.limitTimer = none → exec .limitTimerExpiry s = .next s) ∧
  (∀ (s : State) (c : Confirmation), s.belt.source = .confirming c → c.origin = .estimate →
    (s.belt.limitExpired = true →
      ∃ t, exec .confirmingGap s = .next t ∧ lost s t (halted s .limit) ∧ handed s t .limit) ∧
    (s.belt.limitExpired = false → s.belt.motion = .reverse →
      ∃ t, exec .confirmingGap s = .next t ∧ lost s t (halted s .loss) ∧ handed s t .loss) ∧
    (s.belt.limitExpired = false → s.belt.motion = .forward →
      ∃ t, exec .confirmingGap s = .next t ∧ t.belt.source = .estimate ∧ t.belt.gen = some 0 ∧
        t.belt.frozen = s.belt.frozen ∧ t.belt.limitTimer = s.belt.limitTimer ∧
        t.belt.position = s.belt.position ∧ t.belt.motion = .forward ∧ t.lanes.source = .estimate ∧
        Framed s t [] ∧ t.table = s.table ∧ t.sched = s.sched ∧ t.drive = s.drive ∧ t.pins = s.pins ∧
        t.ctrl.line = s.ctrl.line ∧ HandsSource { s with belt := t.belt } .confirming t)) ∧
  (∀ (s : State) (c : Confirmation), s.belt.source = .confirming c → c.origin = .lost →
    (s.belt.restart = false ∨ s.belt.run = false → ∃ t, exec .confirmingGap s = .next t ∧
      lost s t (if s.belt.run then halted s .gap else s.ctrl.line) ∧ handed s t .gap) ∧
    (s.belt.restart = true → s.belt.run = true →
      ∃ t why, exec .confirmingGap s = .next t ∧ lost s t (halted s why) ∧ t.belt.restart = false ∧
        (why = .gap ∨ why = .silence) ∧ ∃ o : List Nat,
          let told : State := { ToldLost { s with belt := t.belt } .gap with order := o }
          HandsMotion ((told.takeLost .gap).takeSilence) s.belt.motion t ∨
          HandsMotion (told.takeSilence.takeLost .gap) s.belt.motion t)) ∧
  (∀ s : State, (∀ c, s.belt.source ≠ .confirming c) → exec .confirmingGap s = .next s) ∧
  (∀ (s : State) (e : Nat), s.belt.silenceTimer = some e →
    ∃ t, exec .silenceTimerExpiry s = .next t ∧ t.belt = { s.belt with silenceTimer := none, restart := false } ∧
      Framed s t [.trackHalt] ∧ t.pins = s.pins ∧ t.ctrl.line = halted s .silence ∧
      t = { s with belt := t.belt }.takeSilence) ∧
  (∀ s : State, s.belt.silenceTimer = none → exec .silenceTimerExpiry s = .next s)

/-! ### Lanes -/

/-- A target place of a payload with a field out of range (R29 step 5, R76, Table 9-10). -/
def BadPlaceAt (p : List Byte) (i : Nat) : Prop :=
  16 ≤ num8 p i ∨ (num8 p (i + 3) ≠ 1 ∧ num8 p (i + 3) ≠ 2) ∨ (num8 p (i + 3) = 2 ∧ half p (i + 4) = 0)

/-- SET_LANE (R29 to R31): a payload that fails a check changes nothing; one that passes gives the lane its parameters
together, keeps its filter, and changes its state as R31 says; an OCCUPIED lane that is switched off or has its present
level changed in ARMED gives up its record. -/
def Obligations.SetLaneTakesAllParametersOrNone : Prop :=
  (∀ (s : State) (tag : Byte) (p : List Byte), s.linkReady → p.length = 49 → parseLane p = none →
    exec (.setLane tag p) s = .next (s.withReply 0x91 tag [3] .nothing)) ∧
  (∀ (q : LaneParams) (l : Fin 8), q.wf → parseLane (q.payload l) = some (l, q)) ∧
  (∀ (p : List Byte), 8 ≤ num8 p 0 ∨ 2 ≤ num8 p 1 ∨ 2 ≤ num8 p 2 ∨ 2 ≤ num8 p 3 ∨ 10000 < num16 p 4 ∨
    num16 p 6 = 0 ∨ num16 p 8 < num16 p 6 ∨ 1048575 < num32 p 10 ∨ num32 p 14 ≤ num16 p 8 ∨
    1048575 < num32 p 14 ∨ num32 p 18 = 0 ∨ 1048575 < num32 p 18 ∨ 4 < num8 p 24 → parseLane p = none) ∧
  (∀ (p : List Byte) (k : Nat), k < num8 p 24 →
    (BadPlaceAt p (25 + 6 * k) ∨ (half p 22).getLsbD (num8 p (25 + 6 * k)) = false) → parseLane p = none) ∧
  (∀ (s : State) (tag : Byte) (l : Fin 8) (q : LaneParams), s.linkReady → q.wf →
    let x := s.lane l
    let eye : LaneState := if x.confirmed = q.present then .blocked .activation else .clear
    let leaves : Bool := x.cfg.enabled && !q.enabled
    let enters : Bool := !x.cfg.enabled && q.enabled && s.ctrl.line == .armed
    let again : Bool := x.cfg.enabled && q.enabled && s.ctrl.line == .armed && x.cfg.present != q.present
    let t := s.putLane l { x with
      cfg := q, state := if leaves then .off else if enters || again then eye else x.state }
    ((∀ o, x.state = .occupied o → leaves = false ∧ again = false) →
      exec (.setLane tag (q.payload l)) s = .next (t.withReply 0x91 tag [0] .nothing)) ∧
    (∀ o, x.state = .occupied o → (leaves = true ∨ again = true) →
      exec (.setLane tag (q.payload l)) s =
        .next ((t.discard o.tag .laneOff).withReply 0x91 tag [0] .nothing)))

/-- A sample of an eye (R34 to R36), as SampledEye says. The command drives the pin (model's choice, log 25). -/
def Obligations.EyeRawChangeOpensOrDropsACandidate : Prop :=
  ∀ (s : State) (l : Fin 8) (level : Level),
    SampledEye s { s with pins := { s.pins with
      eyes := s.pins.eyes.set l { s.pins.eyes[l] with drive := some level } } } l level
        (exec (.eyeRawChange l level) s)

/-- The lane default of an AWAITING record is applied (R57, R60, R61, R68): PASS counts as admitted with no targets; EJECT
takes its targets with their points as computed, PENDING when the schedule admits them, NOT_SCHEDULED when a valve
cannot be driven or is DISABLED, a close point does not lie between open and exit point, or an open point is reached,
and NOT_SCHEDULED with SCHED_FULL when only the admission fails; then ITEM_DEFAULTED. -/
def Defaulted (s : State) (r : ItemRecord) (c : Closing) (u : State) : Prop :=
  let ps := r.snapshot.default.map (s.place r c)
  let good (p : Placed) : Prop :=
    (s.valve p.valve).cfg.mode ≠ .off ∧ (s.valve p.valve).state ≠ .disabled ∧
    comesAfter p.closeAt p.openAt = true ∧ comesAfter c.exitAt p.closeAt = true ∧
    reached s.table.position p.openAt = false
  let record (w : State) (o : TargetOutcome) : State := w.updateRecord r.tag (fun x =>
    { x with progress := .defaulted c (ps.map (fun p => ⟨p.valve, p.openAt, p.closeAt, o⟩)) })
  (ps = [] → u = (record s .pending).offer (.itemDefaulted r.tag false true)) ∧
  (ps ≠ [] → (∃ p ∈ ps, ¬ good p) → u = (record s .notScheduled).offer (.itemDefaulted r.tag true false)) ∧
  (ps ≠ [] → (∀ p ∈ ps, good p) →
    (∀ placed, s.admission r.tag ps = .admitted placed →
      u = (record { s with sched := placed } .pending).offer (.itemDefaulted r.tag true true)) ∧
    (s.admission r.tag ps = .conflict ∨ s.admission r.tag ps = .noRoom →
      u = ((record s .notScheduled).occur .schedFull).offer (.itemDefaulted r.tag true false)))

/-- An ENTERING record is closed (R53, R54, R66): it is AWAITING with its trailing, length, exit point and marks,
ITEM_ENTERED is offered, and with the horizon or the exit point already reached its default is applied at once,
whatever the motion state. -/
def Closed (s : State) (r : ItemRecord) (c : Closing) (blocked estimated : Bool) (u : State) : Prop :=
  let r1 : ItemRecord := { r with progress := .awaiting c, blocked := blocked, estimated := r.estimated || estimated }
  let w := (s.updateRecord r.tag (fun _ => r1)).offer
    (.itemEntered r.tag r.lane r.leading c.trailing c.length r1.estimated blocked r.horizon c.exitAt)
  (reached s.table.position r.horizon = false → reached s.table.position c.exitAt = false → u = w) ∧
  (reached s.table.position r.horizon = true ∨ reached s.table.position c.exitAt = true → Defaulted w r1 c u)

/-- A confirmed edge in each lane state (R36, R37, R40 to R43, R47, R52 to R54). The command confirms an open candidate
whenever it comes (model's choice, log 2); a length above the max length, of an edge that no update preceded, is kept
(model's choice, log 27). And the other ways an item ends at its lane: the max-length point (R44), the reversal (R45),
the discard of its record (R55). -/
def Obligations.ConfirmedEdgeMakesAndClosesItems : Prop :=
  ∀ (s : State) (l : Fin 8),
    let x := s.lane l
    (x.candidate = none → exec (.debounceExpiry l) s = .next s) ∧
    (∀ c : Candidate, x.candidate = some c →
      let y : Lane := { x with confirmed := c.level, candidate := none }
      let present := c.level = x.cfg.present
      (x.state = .off → exec (.debounceExpiry l) s = .next (s.putLane l y)) ∧
      (x.state = .clear → ¬ present → exec (.debounceExpiry l) s = .next (s.putLane l y)) ∧
      (x.state = .clear → present → s.lanes.motion = .reverse →
        exec (.debounceExpiry l) s = .next (s.putLane l { y with state := .blocked .reversal })) ∧
      (x.state = .clear → present → s.lanes.motion ≠ .reverse → 64 ≤ s.table.records.length →
        exec (.debounceExpiry l) s =
          .next ((s.putLane l { y with state := .blocked .full }).occur .tableFull)) ∧
      (x.state = .clear → present → s.lanes.motion ≠ .reverse → s.table.records.length < 64 →
        let o : OpenCapture :=
          ⟨s.table.tagToUse, c.captured, c.estimated, x.cfg.minLength, x.cfg.maxLength, x.cfg.exitOffset⟩
        exec (.debounceExpiry l) s = .next
          { s.putLane l { y with state := .occupied o } with
            table := { s.table with
              records := s.table.records ++
                [{ tag := s.table.tagToUse, lane := l, leading := c.captured, estimated := c.estimated,
                   blocked := false, horizon := c.captured + BitVec.ofNat 32 x.cfg.horizonOffset,
                   snapshot := ⟨x.cfg.eyeOffset, x.cfg.valveSet, x.cfg.default⟩, progress := .entering }],
              nextTag := if s.table.tagToUse < 65535 then s.table.tagToUse + 1 else 1 } }) ∧
      (∀ why, x.state = .blocked why → ¬ present →
        exec (.debounceExpiry l) s = .next (s.putLane l { y with state := .clear })) ∧
      (∀ why, x.state = .blocked why → present → exec (.debounceExpiry l) s = .next (s.putLane l y)) ∧
      (∀ o, x.state = .occupied o → present → exec (.debounceExpiry l) s = .next (s.putLane l y)) ∧
      (∀ o, x.state = .occupied o → ¬ present →
        let length := (c.captured - o.leading).toNat
        let kept := 1 ≤ length ∧ length < 2147483648 ∧ o.minLength ≤ length
        (¬ kept → exec (.debounceExpiry l) s =
          .next ((s.putLane l { y with state := .clear }).discard o.tag .short)) ∧
        (∀ r : ItemRecord, kept → s.record? o.tag = some r → r.progress = .entering →
          ∃ u, Closed (s.putLane l { y with state := .clear }) r
              ⟨c.captured, length, c.captured + BitVec.ofNat 32 o.exitOffset⟩ false (o.estimated || c.estimated) u ∧
            exec (.debounceExpiry l) s = .next u))) ∧
    (∀ (o : OpenCapture) (r : ItemRecord) (up : Update), x.state = .occupied o → s.record? o.tag = some r →
      r.progress = .entering →
      let point := o.leading + BitVec.ofNat 32 o.maxLength
      ∃ u, Closed s r ⟨point, o.maxLength, point + BitVec.ofNat 32 o.exitOffset⟩ true
          (o.estimated || (up.source == .estimate || up.source == .confirming)) u ∧
        State.closeByLength up s l = (u.putLane l { x with state := .blocked .length }).occur .eyeBlocked) ∧
    (∀ up : Update, ∃ (ls : List (Fin 8)) (o : List Nat),
      ls.Perm (allLanes.filter (fun k => match (s.lane k).state with
        | .occupied c => reached up.position (c.leading + BitVec.ofNat 32 c.maxLength)
        | _ => false)) ∧
      State.lanesUpdate up s = ls.foldl (State.closeByLength up) { s with
        lanes := { s.lanes with position := up.position, motion := up.motion, source := up.source }, order := o }) ∧
    (∀ o : OpenCapture, x.state = .occupied o →
      s.abandonByReversal l = (s.putLane l { x with
        state := if x.confirmed = x.cfg.present then .blocked .reversal else .clear }).discard o.tag .abandoned) ∧
    (∀ new : Motion,
      (new ≠ .reverse → s.lanesMotion new = { s with lanes := { s.lanes with motion := new } }) ∧
      (new = .reverse → ∃ (ls : List (Fin 8)) (o : List Nat),
        ls.Perm (allLanes.filter (fun k => (s.lane k).isOccupied)) ∧
        s.lanesMotion new =
          ls.foldl State.abandonByReversal { s with lanes := { s.lanes with motion := new }, order := o })) ∧
    (∀ (tag : Nat) (why : DiscardReason),
      (∀ r : ItemRecord, s.record? tag = some r → r.progress = .entering →
        s.discard tag why = ({ s with table := { s.table with
          records := s.table.records.filter (fun r' => r'.tag != tag) } }).offer (.itemDiscarded r.lane tag why)) ∧
      ((∀ r : ItemRecord, s.record? tag = some r → r.progress ≠ .entering) → s.discard tag why = s))

/-! ### Items -/

/-- A new record takes the first value from the counter on that no record carries, 65,535 followed by 1 (R50): the value
is free, every value passed over is held, and at most as many are passed over as records are held. -/
def Obligations.NewRecordTakesTheFirstFreeTag : Prop :=
  let after : Nat → Nat → Nat := fun t k => (t - 1 + k) % 65535 + 1
  ∀ t : Table, t.wf → t.records.length < 64 →
    t.tagToUse ∉ t.records.map ItemRecord.tag ∧
    ∃ k, k ≤ t.records.length ∧ t.tagToUse = after t.nextTag k ∧
      ∀ j, j < k → after t.nextTag j ∈ t.records.map ItemRecord.tag

/-- The nominal points of a target (R72, R73): leading or trailing, plus nozzle offset, minus eye offset, plus the
offset as two's complement; or the open point plus the span. A record's targets take the snapshot's eye offset and the
nozzle offset the valve has now (R60, R72). -/
def Obligations.NominalPointsFollowTheItem : Prop :=
  ∀ (v : Fin 16) (start value : Half) (nozzle eye : Nat) (leading trailing : Pos),
    let along (p : Pos) (o : Half) : Pos :=
      p + BitVec.ofNat 32 nozzle - BitVec.ofNat 32 eye + BitVec.ofInt 32 o.toInt
    Target.openPoint ⟨v, start, .itemEnd value⟩ nozzle eye leading = along leading start ∧
    Target.openPoint ⟨v, start, .fixed value⟩ nozzle eye leading = along leading start ∧
    Target.closePoint ⟨v, start, .itemEnd value⟩ nozzle eye leading trailing = along trailing value ∧
    Target.closePoint ⟨v, start, .fixed value⟩ nozzle eye leading trailing =
      along leading start + BitVec.ofNat 32 value.toNat ∧
    ∀ (s : State) (r : ItemRecord) (c : Closing) (t : Target), s.place r c t =
      ⟨t.valve, t.openPoint (s.valve t.valve).cfg.nozzleOffset r.snapshot.eyeOffset r.leading,
       t.closePoint (s.valve t.valve).cfg.nozzleOffset r.snapshot.eyeOffset r.leading c.trailing⟩

/-- VERDICT, steps 1 to 4 of Table 4-2 (R71, R74 to R76): the first failing step answers with its result, the slots in use
and the target index of that step, and nothing changes. -/
def Obligations.VerdictFirstChecksLineRecordAndFields : Prop :=
  ∀ (s : State) (req : Byte) (p : List Byte), s.linkReady → p.length = 27 →
    let refused (code index : Nat) : Prop :=
      exec (.verdict req p) s =
        .next (s.withReply 0xA0 req (put8 code ++ put8 s.slotsInUse ++ put8 index) .nothing)
    (s.ctrl.line ≠ .armed → refused 4 255) ∧
    (s.ctrl.line = .armed →
      (s.record? (num16 p 0) = none → refused 6 255) ∧
      (∀ r : ItemRecord, s.record? (num16 p 0) = some r →
        (r.progress = .entering → refused 4 255) ∧
        (∀ c d os, r.progress = .decided c d os → refused 4 255) ∧
        (∀ c os, r.progress = .defaulted c os → refused 7 255) ∧
        (∀ c, r.progress = .awaiting c →
          (4 < num8 p 2 → refused 3 255) ∧
          (∀ k, num8 p 2 ≤ 4 → k < num8 p 2 → BadPlaceAt p (3 + 6 * k) →
            (∀ j, j < k → ¬ BadPlaceAt p (3 + 6 * j)) → refused 3 k))))

/-- VERDICT, steps 5 to 9 of Table 4-2 and its acceptance, for targets in range (R74, R76 to R81): refused with the
result and the index of the first target that fails the first failing step; else the record is DECIDED with PENDING
targets and the schedule is as admitted. A pass verdict is the empty list. Stated for schedules of at most 128 actions
(R90). -/
def Obligations.VerdictDecidesTheRecordOrChangesNothing : Prop :=
  ∀ (s : State) (req : Byte) (tag : Half) (ts : List Target) (r : ItemRecord) (c : Closing),
    s.linkReady → s.ctrl.line = .armed → s.sched.wf → ts.length ≤ 4 → (∀ t ∈ ts, t.wf = true) →
    s.record? tag.toNat = some r → r.progress = .awaiting c →
    let ps := ts.map (s.place r c)
    let listed (t : Placed) : Bool :=
      r.snapshot.valveSet.getLsbD t.valve.val && (s.valve t.valve).cfg.mode != .off
    let enabled (t : Placed) : Bool := (s.valve t.valve).state != .disabled
    let ordered (t : Placed) : Bool := comesAfter t.closeAt t.openAt && comesAfter c.exitAt t.closeAt
    let ahead (t : Placed) : Bool := !reached s.table.position t.openAt
    let fails (ok : Placed → Bool) (k : Nat) : Prop :=
      (∃ t, ps[k]? = some t ∧ ok t = false) ∧ ∀ j t, j < k → ps[j]? = some t → ok t = true
    let all (ok : Placed → Bool) : Prop := ∀ t ∈ ps, ok t = true
    let send := exec (.verdict req (verdictPayload tag ts)) s
    let refused (code index : Nat) : Prop :=
      send = .next (s.withReply 0xA0 req (put8 code ++ put8 s.slotsInUse ++ put8 index) .nothing)
    (∀ k, fails listed k → refused 3 k) ∧
    (∀ k, all listed → fails enabled k → refused 10 k) ∧
    (∀ k, all listed → all enabled → fails ordered k → refused 3 k) ∧
    (∀ k, all listed → all enabled → all ordered → fails ahead k → refused 7 k) ∧
    (all listed → all enabled → all ordered → all ahead →
      (s.admission r.tag ps = .conflict → refused 9 255) ∧
      (s.admission r.tag ps = .noRoom → refused 8 255) ∧
      (∀ placed, s.admission r.tag ps = .admitted placed →
        let given : List RecordTarget := ps.map (fun t => ⟨t.valve, t.openAt, t.closeAt, .pending⟩)
        send = .next (({ s with sched := placed }.updateRecord tag.toNat
            (fun x => { x with progress := .decided c .verdict given })).withReply 0xA0 req
          (put8 0 ++ put8 placed.slotsInUse ++ put8 255) .nothing))) ∧
    (ts = [] →
      send = .next ((s.updateRecord tag.toNat (fun x => { x with progress := .decided c .verdict [] })).withReply
        0xA0 req (put8 0 ++ put8 s.slotsInUse ++ put8 255) .nothing))

/-- CANCEL (R84 to R89, R108, R109): its refusals; an AWAITING record is passed; of a decided one every contribution in a
QUEUED action leaves and its target is CANCELLED, its action goes with its last contribution or takes its points again
from what remains, those in OPEN actions stay, and so does every contribution of another tag with its outcome; the reply
counts what left and what runs. -/
def Obligations.CancelWithdrawsWhatHasNotBegun : Prop :=
  ∀ (s : State) (req : Byte) (tag : Half), s.linkReady →
    let send := exec (.cancel req (putHalf tag)) s
    let refused (code : Nat) : Prop :=
      send = .next (s.withReply 0xA1 req (put8 code ++ [0, 0] ++ put8 s.slotsInUse) .nothing)
    (s.ctrl.line ≠ .armed → refused 4) ∧
    (s.ctrl.line = .armed →
      (s.record? tag.toNat = none → refused 6) ∧
      (∀ r : ItemRecord, s.record? tag.toNat = some r →
        (r.progress = .entering → refused 4) ∧
        (∀ c, r.progress = .awaiting c →
          send = .next ((s.updateRecord tag.toNat (fun x =>
            { x with progress := .decided c .cancel [] })).withReply 0xA1 req
              ([0, 0, 0] ++ put8 s.slotsInUse) .nothing)) ∧
        (r.isDecided = true →
          let withdrawn := allValves.flatMap (fun v => queuedOfTag tag.toNat (s.queue v))
          let running := allValves.flatMap (fun v => openOfTag tag.toNat (s.queue v))
          ∃ u : State,
            send = .next (u.withReply 0xA1 req
              ([0] ++ put8 withdrawn.length ++ put8 running.length ++ put8 u.slotsInUse) .nothing) ∧
            u = { s with table := s.table.withOutcomes (served .cancelled withdrawn),
                         sched := { s.sched with queues := u.sched.queues } } ∧
            (∀ v : Fin 16, u.queue v =
              (s.queue v).filterMap (fun a => if a.state = .queued then leftWithout tag.toNat a else some a)) ∧
            (∀ v : Fin 16, (∀ a ∈ u.queue v, a.state = .queued → a.ofTag tag.toNat = []) ∧
              (u.queue v).filter (fun a => a.state == .opened) =
                (s.queue v).filter (fun a => a.state == .opened) ∧
              (∀ a ∈ s.queue v, a.ofTag tag.toNat = [] → a ∈ u.queue v) ∧
              ∀ a ∈ s.queue v, ∀ k ∈ a.contribs, k.tag ≠ tag.toNat →
                ∃ b ∈ u.queue v, k ∈ b.contribs ∧ b.state = a.state))))

/-- The fields of the QUERY_ITEM reply behind its result (Tables 9-16 and 9-17), for a record at an entry index. -/
def ItemFields (r : ItemRecord) (index : Nat) : List Byte :=
  let targets := r.progress.targets
  put16 r.tag ++ put8 r.lane.val ++
    put8 (match r.progress with | .entering => 1 | .awaiting _ => 2 | .decided _ _ _ => 3 | .defaulted _ _ => 4) ++
    put8 index ++ putWord r.leading ++ putWord r.horizon ++
    (match r.progress.closing? with
      | some c => putWord c.trailing ++ put16 c.length ++ putWord c.exitAt
      | none => [0, 0, 0, 0, 0, 0, 0, 0, 0, 0]) ++
    put8 ((if r.estimated = true then 1 else 0) + (if r.blocked = true then 2 else 0)) ++ put32 r.snapshot.eyeOffset ++
    putHalf r.snapshot.valveSet ++ put8 (if r.snapshot.default = [] then 1 else 2) ++ put8 r.snapshot.default.length ++
    put8 (match r.progress with
      | .entering => 0 | .awaiting _ => 0 | .decided _ .verdict _ => 1 | .defaulted _ _ => 2 | .decided _ .cancel _ => 3) ++
    put8 targets.length ++
    targets.flatMap (fun x => put8 x.valve.val ++ putWord x.openAt ++ putWord x.closeAt ++ put8 x.outcome.code) ++
    List.replicate (10 * (4 - targets.length)) 0

/-- One head action place of the QUERY_VALVE reply (Table 9-19). -/
def PlaceFields (a : Action) : List Byte :=
  put8 (match a.state with | .queued => 1 | .opened => 2) ++ putWord a.openAt ++ putWord a.closeAt ++
    put8 a.contribs.length ++
    a.contribs.flatMap (fun k => put16 k.tag ++ put8 k.index ++ put8 (match k.phase with | .pending => 1 | .active => 2)) ++
    List.replicate (4 * (4 - a.contribs.length)) 0

/-- The fields of the QUERY_VALVE reply behind its result (Table 9-18). -/
def ValveFields (s : State) (v : Fin 16) : List Byte :=
  let x := s.valve v
  put8 v.val ++
    put8 (match x.state with | .idle => 1 | .pullIn => 2 | .hold => 3 | .test _ _ => 4 | .disabled => 5) ++
    (match x.state with
      | .test .pull d => put8 1 ++ put16 d
      | .test .hold d => put8 2 ++ put16 d
      | .idle => [0, 0, 0] | .pullIn => [0, 0, 0] | .hold => [0, 0, 0] | .disabled => [0, 0, 0]) ++
    put8 (match x.cfg.mode with | .off => 1 | .activeHigh => 2 | .activeLow => 3) ++ put32 x.active ++
    put8 x.duty ++ put8 x.pendingDuty ++ put16 (s.advance v).openBy ++ put16 (s.advance v).closeBy ++
    put8 (s.queue v).length ++ put8 (min (s.queue v).length 4) ++
    ((s.queue v).take 4).flatMap PlaceFields ++ List.replicate (26 * (4 - (s.queue v).length)) 0

/-- QUERY_ITEM and QUERY_VALVE (R70, R141) answer the state as it stands, in the fields of Tables 9-16 to 9-19, and change
nothing else. Stated for records of at most 4 targets and queues of actions with at most 4 contributions (R71, R91). -/
def Obligations.QueriesAnswerAndChangeNothing : Prop :=
  (∀ (s : State) (req : Byte), s.linkReady →
    exec (.queryItem req [0, 0]) s = .next (s.withReply 0xA2 req [3] .nothing)) ∧
  (∀ (s : State) (req : Byte) (tag : Half), s.linkReady → tag ≠ 0 →
    (s.record? tag.toNat = none → exec (.queryItem req (putHalf tag)) s = .next (s.withReply 0xA2 req [6] .nothing)) ∧
    (∀ (before behind : List ItemRecord) (r : ItemRecord), s.table.records = before ++ r :: behind →
      (∀ x ∈ before, x.tag ≠ tag.toNat) → r.tag = tag.toNat → r.progress.targets.length ≤ 4 →
      exec (.queryItem req (putHalf tag)) s =
        .next (s.withReply 0xA2 req ([0] ++ ItemFields r (before.length + 1)) .nothing))) ∧
  (∀ (s : State) (req : Byte) (v : Fin 16), s.linkReady → (∀ a ∈ s.queue v, a.contribs.length ≤ 4) →
    exec (.queryValve req (put8 v.val)) s = .next (s.withReply 0xA8 req ([0] ++ ValveFields s v) .nothing)) ∧
  (∀ (s : State) (req n : Byte), s.linkReady → 16 ≤ n.toNat →
    exec (.queryValve req [n]) s = .next (s.withReply 0xA8 req [3] .nothing)) ∧
  (∀ (r : ItemRecord) (k : Nat), r.progress.targets.length ≤ 4 → (ItemFields r k).length = 74) ∧
  (∀ (s : State) (v : Fin 16), (∀ a ∈ s.queue v, a.contribs.length ≤ 4) → (ValveFields s v).length = 122)

/-- A record is retired (R62, R69, R110): its contributions leave every queue, its outcomes still open end as MISSED, it
leaves the table, and ITEM_RETIRED is offered with lane, decision, estimated mark and every target's final outcome. -/
def Retired (s : State) (tag : Nat) (t : State) : Prop :=
  let queued := allValves.flatMap (fun v => (s.queue v).flatMap Action.contribs)
  ∃ (r : ItemRecord) (w : State), s.record? tag = some r ∧
    w = { s with
      table := { s.table with records := s.table.records.filter (fun x => x.tag != tag) },
      sched := { s.sched with queues := w.sched.queues } } ∧
    (∀ v : Fin 16, w.queue v = (s.queue v).filterMap (leftWithout tag)) ∧
    t = w.offer (.itemRetired tag r.lane
      (match r.progress with | .decided _ .verdict _ => .verdict | .decided _ .cancel _ => .cancel | _ => .default)
      r.estimated
      (r.progress.targets.mapIdx (fun i x => (x.valve, if names queued tag i = true then .missed else x.outcome))))

/-- The six orders in which the Lane Inputs, the Tracking Table, and the Action Schedule with the Valve Drive behind it can
take one update (R12). -/
def UpdateOrders (u : Update) (s : State) : List State :=
  [((s.lanesUpdate u).tableUpdate u).driveUpdate u, ((s.lanesUpdate u).driveUpdate u).tableUpdate u,
   ((s.tableUpdate u).lanesUpdate u).driveUpdate u, ((s.tableUpdate u).driveUpdate u).lanesUpdate u,
   ((s.driveUpdate u).lanesUpdate u).tableUpdate u, ((s.driveUpdate u).tableUpdate u).lanesUpdate u]

/-- What one record does on a FORWARD update at a position (R56, R57, R59 to R62, R69): nothing before its points; its
default at its horizon point, or at an exit point reached before it, where it retires in the same pass; retirement of a
DECIDED or DEFAULTED one at its exit point, after which no queue holds a contribution of it and the table no record with
its tag. The table takes its records in entry order on a FORWARD update and looks at none on another (R56, R58); every
count hands one update to every receiver (R12), in an order that is open (log 4), and behind a source change of that count
(model's choice, log 32, where the motion stays). -/
def Obligations.HorizonDefaultsAndExitRetires : Prop :=
  (∀ (s : State) (p : Pos) (r : ItemRecord), s.record? r.tag = some r →
    (r.progress = .entering → s.checkRecord p r.tag = s) ∧
    (∀ c, r.progress = .awaiting c →
      (reached p r.horizon = false → reached p c.exitAt = false → s.checkRecord p r.tag = s) ∧
      (reached p r.horizon = true ∨ reached p c.exitAt = true → ∃ u, Defaulted s r c u ∧
        (reached p c.exitAt = false → s.checkRecord p r.tag = u) ∧
        (reached p c.exitAt = true → Retired u r.tag (s.checkRecord p r.tag)))) ∧
    (∀ c, (∃ d os, r.progress = .decided c d os) ∨ (∃ os, r.progress = .defaulted c os) →
      (reached p c.exitAt = false → s.checkRecord p r.tag = s) ∧
      (reached p c.exitAt = true →
        let t := s.checkRecord p r.tag
        Retired s r.tag t ∧
        (∀ x ∈ t.table.records, x.tag ≠ r.tag) ∧
        (∀ v : Fin 16, ∀ a ∈ t.queue v, ∀ k ∈ a.contribs, k.tag ≠ r.tag) ∧
        (∀ x ∈ s.table.records, x.tag ≠ r.tag → x ∈ t.table.records) ∧
        t.belt = s.belt ∧ t.lanes = s.lanes ∧ t.drive = s.drive ∧ t.ctrl.line = s.ctrl.line ∧ Framed s t []))) ∧
  (∀ (s : State) (u : Update),
    let s1 : State := { s with table := { s.table with position := u.position, motion := u.motion } }
    (u.motion = .forward →
      s.tableUpdate u = (s.table.records.map ItemRecord.tag).foldl (fun w tag => w.checkRecord u.position tag) s1) ∧
    (u.motion ≠ .forward → s.tableUpdate u = s1)) ∧
  (∀ (s : State) (k : UpdateKind), ∃ o : List Nat, s.handUpdate k ∈
    UpdateOrders ⟨s.belt.position, k, s.belt.motion, s.belt.source.kind, s.belt.speed⟩ { s with order := o }) ∧
  (∀ (s : State) (d : Dir), ∃ w : State, s.countEncoder d = w.handUpdate .encoder ∧
    w.belt = (s.countEncoder d).belt ∧
    (w.belt.motion = s.belt.motion → w.belt.source.kind = s.belt.source.kind → w = { s with belt := w.belt })) ∧
  (∀ (s : State) (f : Nat), s.belt.source = .timed → s.belt.gen = some f →
    ∃ w : State, exec .timedStep s = .next (w.handUpdate .timed) ∧
      (w.belt.motion = s.belt.motion → w = { s with belt := w.belt })) ∧
  (∀ (s : State) (f : Nat), s.belt.source = .estimate → s.belt.gen = some f →
    ∃ w : State, exec .estimatedStep s = .next (w.handUpdate .estimated) ∧
      (w.belt.motion = s.belt.motion → w = { s with belt := w.belt }))

/-! ### The Action Schedule -/

/-- A contribution cannot be placed on its valve (R96): it comes before the open point of an OPEN action there, or the
actions it touches hold, with it, more than 4 contributions. -/
def Conflicts (gap : Nat) (k : Contribution) (q : List Action) : Prop :=
  (∃ a ∈ q, a.state = .opened ∧ comesAfter a.openAt k.openAt = true) ∨
  4 < ((q.filter (touches gap k)).map (fun a => a.contribs.length)).sum + 1

/-- The elements of a list are placed into another one after the other, each by its point (R91). -/
def PlacedOneByOne {α : Type} (point : α → Pos) : List α → List α → List α → Prop
  | [], before, after => after = before
  | x :: xs, before, after => ∃ mid, PlacedIn point x before mid ∧ PlacedOneByOne point xs mid after

/-- Contributions stand in order of nominal open point: none comes after the one behind it (R91). -/
def InOpenOrder (cs : List Contribution) : Prop :=
  ∀ (i : Nat) (d e : Contribution), cs[i]? = some d → cs[i + 1]? = some e → comesAfter d.openAt e.openAt = false

/-- A contribution joins a queue (R91, R93, R95, R97, R99): the actions it touches become one action with it, OPEN at its
fixed open point if one of them is OPEN, else QUEUED at the least open point; the close point is the greatest; the
contributions of the first of them stay in their order, and those of the others and the new one are placed among them by
their open points; the actions it does not touch stay, and the joined action stands among them by its open point. -/
def Joins (gap : Nat) (k : Contribution) (q q' : List Action) : Prop :=
  let hit := q.filter (touches gap k)
  ∃ a : Action, PlacedIn Action.openAt a (q.filter (fun b => !touches gap k b)) q' ∧
    (hit = [] → a = ⟨.queued, k.openAt, k.closeAt, [k]⟩) ∧
    a.contribs.Perm (k :: hit.flatMap Action.contribs) ∧
    (∀ b bs, hit = b :: bs →
      PlacedOneByOne Contribution.openAt (bs.flatMap Action.contribs ++ [k]) b.contribs a.contribs ∧
      (InOpenOrder b.contribs → InOpenOrder a.contribs)) ∧
    ((∃ b ∈ hit, b.state = .opened) → a.state = .opened) ∧
    (∀ b, hit.find? (fun x => x.state == .opened) = some b → a.openAt = b.openAt) ∧
    ((∀ b ∈ hit, b.state = .queued) →
      a.state = .queued ∧ a.openAt = leastPoint (hit.map Action.openAt ++ [k.openAt])) ∧
    a.closeAt = greatestPoint (hit.map Action.closeAt ++ [k.closeAt])

/-- Admission is all or nothing (R91, R95 to R100): the targets are taken one after the other, and each joins what it
touches or starts an action of its own; one that cannot be placed makes the whole a CONFLICT; with all placed it is
admitted if 128 slots hold the result, else NO_ROOM. Placed, it holds every target PENDING in its valve's queue, keeps
every contribution already there, and leaves every valve it does not name. The touch test and the advance are the
manual's (R94, R102). That targets of one admission with equal open points stand in the order of their indices is the
model's choice (log 28). -/
def Obligations.AdmissionIsAllOrNothing : Prop :=
  (∀ (c : Schedule) (gap : Fin 16 → Nat) (q : Request) (rs : List Request),
    (Conflicts (gap q.valve) q.contribution c.queues[q.valve] → c.takeAll gap (q :: rs) = .conflict) ∧
    (¬ Conflicts (gap q.valve) q.contribution c.queues[q.valve] → ∃ c' : Schedule,
      c' = { c with queues := c.queues.set q.valve c'.queues[q.valve] } ∧
      Joins (gap q.valve) q.contribution c.queues[q.valve] c'.queues[q.valve] ∧
      c.takeAll gap (q :: rs) = c'.takeAll gap rs ∧
      c'.slotsInUse + (c.queues[q.valve].filter (touches (gap q.valve) q.contribution)).length = c.slotsInUse + 1)) ∧
  (∀ (c : Schedule) (gap : Fin 16 → Nat),
    (c.slotsInUse ≤ 128 → c.takeAll gap [] = .admitted c) ∧ (128 < c.slotsInUse → c.takeAll gap [] = .noRoom)) ∧
  (∀ (s : State) (tag : Nat) (ps : List Placed), ∃ rs : List Request,
    s.admission tag ps = s.sched.takeAll (fun v => (s.valve v).cfg.minGap) rs ∧ rs.length = ps.length ∧
    ∀ (i : Nat) (p : Placed), ps[i]? = some p →
      rs[i]? = some (Request.mk p.valve ⟨tag, i, p.openAt, p.closeAt, .pending⟩)) ∧
  (∀ (c placed : Schedule) (gap : Fin 16 → Nat) (rs : List Request), c.takeAll gap rs = .admitted placed →
    placed.slotsInUse ≤ 128 ∧
    (∀ q ∈ rs, ∃ a ∈ placed.queues[q.valve], q.contribution ∈ a.contribs) ∧
    (∀ v : Fin 16, ∀ a ∈ c.queues[v], ∀ k ∈ a.contribs, ∃ b ∈ placed.queues[v], k ∈ b.contribs) ∧
    (∀ v : Fin 16, (∀ q ∈ rs, q.valve ≠ v) → placed.queues[v] = c.queues[v]) ∧
    placed.advances = c.advances ∧ placed.position = c.position ∧ placed.motion = c.motion ∧
    placed.speed = c.speed) ∧
  (∀ (c : Schedule) (gap : Fin 16 → Nat) (q : Request) (a : Action), a ∈ c.queues[q.valve] → a.state = .opened →
    comesAfter a.openAt q.contribution.openAt = true → c.takeAll gap [q] = .conflict) ∧
  (∀ (gap : Nat) (k : Contribution) (a : Action), touches gap k a = true ↔
    (a.closeAt + BitVec.ofNat 32 gap - k.openAt).toNat < 2147483648 ∧
    (k.closeAt + BitVec.ofNat 32 gap - a.openAt).toNat < 2147483648) ∧
  (∀ (u : Update) (s : State),
    s.scheduleUpdate u = { s with sched := { s.sched with
      position := u.position, motion := u.motion, speed := u.speed, advances := (s.scheduleUpdate u).sched.advances } } ∧
    ∀ v : Fin 16, (s.scheduleUpdate u).advance v =
      ⟨min ((s.valve v).cfg.openLatency * u.speed / 1000000) 65535,
       min ((s.valve v).cfg.closeLatency * u.speed / 1000000) 65535⟩)

/-- What an opening does to its valve (R118, R139): from IDLE its timers start from 0, in PULL_IN with the output on, or in
HOLD with the output by its place in the period when the pull-in time is 0; from TEST the phase, the timers and the
output go on. -/
structure Opens (s : State) (v : Fin 16) : Prop where
  pullIn : (s.valve v).state = .idle → 0 < (s.valve v).cfg.pullIn →
    s.startOpening v = s.putValve v { s.valve v with state := .pullIn, active := 0, pull := 0, out := true }
  hold : (s.valve v).state = .idle → (s.valve v).cfg.pullIn = 0 →
    s.startOpening v = s.putValve v { s.valve v with
      state := .hold, active := 0, pull := 0,
      out := decide ((s.drive.base + s.drive.period - v.val * s.drive.period / 16) % s.drive.period <
        s.drive.period * (s.valve v).duty / 64) }
  fromPull : ∀ d, (s.valve v).state = .test .pull d →
    s.startOpening v = s.putValve v { s.valve v with state := .pullIn }
  fromHold : ∀ d, (s.valve v).state = .test .hold d →
    s.startOpening v = s.putValve v { s.valve v with state := .hold }

/-- The head of a queue on a FORWARD update (R104 to R106, R118, R120): it waits, is removed as MISSED, opens, is carried
on, or ends; after a removal or an end the next action is examined. Stated for actions whose own close point decides
(the close point of an action is the greatest of its contributions', R91). Every queue is examined on a FORWARD update
with its advances and none on another (R104, R113); an opening acts on its valve as R118 and R139 give, an end as R120 gives; an outcome is
written into the target that its contribution names (R63); the pins follow Table 6-3 (R117). -/
def Obligations.HeadExaminationOpensMissesAndEnds : Prop :=
  (∀ (s : State) (u : Update),
    (u.motion = .forward → s.driveUpdate u =
      allValves.foldl (fun w v => State.examineQueue u.position v (w.queue v) w) (s.scheduleUpdate u)) ∧
    (u.motion ≠ .forward → s.driveUpdate u = s.scheduleUpdate u)) ∧
  (∀ (s : State) (v : Fin 16), Opens s v) ∧
  (∀ (s : State) (o : TargetOutcome) (cs : List Contribution),
    s.writeOutcomes o cs = { s with table := s.table.withOutcomes (served o cs) }) ∧
  (∀ (s : State) (v : Fin 16),
    s.releaseValve v = s.putValve v { s.valve v with state := .idle, out := false, pull := 0 }) ∧
  (∀ x : Valve,
    (x.cfg.mode = .off → x.pin = .highZ) ∧
    (x.cfg.mode = .activeHigh → x.pin = if x.out then .high else .low) ∧
    (x.cfg.mode = .activeLow → x.pin = if x.out then .low else .high)) ∧
  (∀ (p : Pos) (v : Fin 16) (s : State), State.examineQueue p v [] s = s.putQueue v []) ∧
  ∀ (p : Pos) (v : Fin 16) (a : Action) (as : List Action) (s : State),
    let adv := s.advance v
    let opens := reached p (a.openAt - BitVec.ofNat 32 adv.openBy)
    let closes := reached p (a.closeAt - BitVec.ofNat 32 adv.closeBy)
    let shut (k : Contribution) : Bool := reached p (k.closeAt - BitVec.ofNat 32 adv.closeBy)
    let begun (k : Contribution) : Bool :=
      k.phase == .pending && reached p (k.openAt - BitVec.ofNat 32 adv.openBy)
    let stay := a.contribs.filter (fun k => !shut k)
    let open' : Action :=
      { a with state := .opened, contribs := stay.map (fun k => if begun k then { k with phase := .active } else k) }
    (a.state = .queued → opens = false → State.examineQueue p v (a :: as) s = s.putQueue v (a :: as)) ∧
    (a.state = .queued → opens = true → (closes = true ∨ s.drive.rail = .low) →
      State.examineQueue p v (a :: as) s = State.examineQueue p v as (s.writeOutcomes .missed a.contribs)) ∧
    (a.state = .queued → opens = true → closes = false → stay ≠ [] → s.drive.rail = .normal →
      State.examineQueue p v (a :: as) s =
        (((s.writeOutcomes .missed (a.contribs.filter shut)).writeOutcomes .active (stay.filter begun)).putQueue v
          (open' :: as)).startOpening v) ∧
    (a.state = .opened → closes = true →
      State.examineQueue p v (a :: as) s =
        State.examineQueue p v as ((s.writeOutcomes .done a.contribs).releaseValve v)) ∧
    (a.state = .opened → closes = false → stay ≠ [] →
      State.examineQueue p v (a :: as) s =
        ((s.writeOutcomes .done (a.contribs.filter shut)).writeOutcomes .active (stay.filter begun)).putQueue v
          (open' :: as))

/-! ### Valves -/

/-- SET_VALVE (R114, R115): valve number, then BUSY, then ranges; accepted, the parameters and both duties at once, a
test ended, the state otherwise kept. -/
def Obligations.SetValveTakesAllParametersOrNone : Prop :=
  (∀ (s : State) (tag : Byte) (p : List Byte), s.linkReady → p.length = 17 → 16 ≤ num8 p 0 →
    exec (.setValve tag p) s = .next (s.withReply 0x92 tag [3] .nothing)) ∧
  (∀ (s : State) (tag : Byte) (p : List Byte) (v : Fin 16), s.linkReady → p.length = 17 → num8 p 0 = v.val →
    s.ctrl.line ≠ .config →
    (((s.valve v).state ≠ .idle ∧ (s.valve v).state ≠ .disabled) ∨ s.queue v ≠ []) →
    exec (.setValve tag p) s = .next (s.withReply 0x92 tag [5] .nothing)) ∧
  (∀ (s : State) (tag : Byte) (p : List Byte) (v : Fin 16), s.linkReady → p.length = 17 → num8 p 0 = v.val →
    (s.ctrl.line = .config ∨
      (((s.valve v).state = .idle ∨ (s.valve v).state = .disabled) ∧ s.queue v = [])) →
    (num8 p 1 = 0 ∨ 3 < num8 p 1 ∨ 1048575 < num32 p 2 ∨ 50000 < num16 p 6 ∨ 50000 < num16 p 8 ∨
      50000 < num16 p 10 ∨ 64 < num8 p 12 ∨ num16 p 15 = 0 ∨ 2000 < num16 p 15) →
    exec (.setValve tag p) s = .next (s.withReply 0x92 tag [3] .nothing)) ∧
  (∀ (s : State) (tag : Byte) (q : ValveParams) (v : Fin 16), s.linkReady → q.wf →
    (s.ctrl.line = .config ∨
      (((s.valve v).state = .idle ∨ (s.valve v).state = .disabled) ∧ s.queue v = [])) →
    let x := s.valve v
    let y : Valve := { x with cfg := q, duty := q.holdDuty, pendingDuty := q.holdDuty }
    ((∀ ph d, x.state ≠ .test ph d) →
      exec (.setValve tag (q.payload v)) s = .next ((s.putValve v y).withReply 0x92 tag [0] .nothing)) ∧
    (∀ ph d, x.state = .test ph d →
      exec (.setValve tag (q.payload v)) s = .next
        ((s.putValve v { y with state := .idle, out := false, pull := 0 }).withReply 0x92 tag [0] .nothing)))

/-- SET_HOLD (R123): the pending duty is written in every line and valve state, and the next period start of the valve
makes it current and puts the base at its offset (model's choice, log 19); a number or duty out of range changes nothing. -/
def Obligations.SetHoldWaitsForThePeriodStart : Prop :=
  (∀ (s : State) (tag d : Byte) (v : Fin 16), s.linkReady → d.toNat ≤ 64 →
    exec (.setHold tag [BitVec.ofNat 8 v.val, d]) s = .next
      ((s.putValve v { s.valve v with pendingDuty := d.toNat }).withReply 0x93 tag [0] .nothing)) ∧
  (∀ (s : State) (tag n d : Byte), s.linkReady → (16 ≤ n.toNat ∨ 64 < d.toNat) →
    exec (.setHold tag [n, d]) s = .next (s.withReply 0x93 tag [3] .nothing)) ∧
  (∀ (s : State) (v : Fin 16), 1 ≤ s.drive.period →
    let x := s.valve v
    let holds : Bool := match x.state with
      | .hold => true | .test .hold _ => true
      | .pullIn => false | .test .pull _ => false | .idle => false | .disabled => false
    exec (.pwmPeriodStart v) s = .next
      ({ s with drive := { s.drive with base := v.val * s.drive.period / 16 } }.putValve v
        { x with duty := x.pendingDuty,
                 out := if holds then decide (0 < s.drive.period * x.pendingDuty / 64) else x.out }))

/-- The output in HOLD (R119, R121, R122, R137): the pull-in timer's end enters HOLD with the output by the place in the
period, and the on time's end switches it off; with none of these running nothing happens. The commands act whenever
the phase runs and put timer and base at that value (model's choice, logs 2, 19). -/
def Obligations.HoldOutputFollowsTheDuty : Prop :=
  ∀ (s : State) (v : Fin 16),
    let x := s.valve v
    let offset := v.val * s.drive.period / 16
    let place := (s.drive.base + s.drive.period - offset) % s.drive.period
    let on := s.drive.period * x.duty / 64
    (x.state = .pullIn → exec (.pullInTimerExpiry v) s = .next
      (s.putValve v { x with state := .hold, pull := x.cfg.pullIn, out := decide (place < on) })) ∧
    (∀ d, x.state = .test .pull d → exec (.pullInTimerExpiry v) s = .next
      (s.putValve v { x with state := .test .hold d, pull := x.cfg.pullIn, out := decide (place < on) })) ∧
    (x.state ≠ .pullIn → (∀ d, x.state ≠ .test .pull d) → exec (.pullInTimerExpiry v) s = .next s) ∧
    ((x.state = .hold ∨ ∃ d, x.state = .test .hold d) → x.out = true → on < s.drive.period →
      exec (.pwmOnTimeEnd v) s = .next
        ({ s with drive := { s.drive with base := (offset + on) % s.drive.period } }.putValve v
          { x with out := false })) ∧
    ((x.state ≠ .hold ∧ ∀ d, x.state ≠ .test .hold d) ∨ x.out = false ∨ s.drive.period ≤ on →
      exec (.pwmOnTimeEnd v) s = .next s)

/-- TEST_FIRE and the end of a test (R136, R137). TEST_END puts the active time at the test duration (model's choice,
log 2). -/
def Obligations.TestFireChecksThenStartsATest : Prop :=
  (∀ (s : State) (tag n : Byte) (d : Half), s.linkReady →
    let send := exec (.testFire tag ([n] ++ putHalf d)) s
    let refused (code : Byte) : Prop := send = .next (s.withReply 0xA9 tag [code] .nothing)
    (∀ why, s.ctrl.line = .halted why → refused 4) ∧
    ((∀ why, s.ctrl.line ≠ .halted why) →
      (16 ≤ n.toNat → refused 3) ∧
      (∀ v : Fin 16, n.toNat = v.val →
        let x := s.valve v
        (d = 0 ∨ x.cfg.maxOpen < d.toNat → refused 3) ∧
        (d ≠ 0 → d.toNat ≤ x.cfg.maxOpen →
          (x.cfg.mode = .off → refused 3) ∧
          (x.cfg.mode ≠ .off →
            (s.drive.rail = .low → refused 4) ∧
            (s.drive.rail = .normal →
              (x.state ≠ .idle ∨ s.queue v ≠ [] → refused 5) ∧
              (x.state = .idle → s.queue v = [] →
                (0 < x.cfg.pullIn → send = .next ((s.putValve v
                  { x with state := .test .pull d.toNat, active := 0, pull := 0, out := true }).withReply
                    0xA9 tag [0] .nothing)) ∧
                (x.cfg.pullIn = 0 →
                  let place := (s.drive.base + s.drive.period - v.val * s.drive.period / 16) % s.drive.period
                  let out := decide (place < s.drive.period * x.duty / 64)
                  send = .next ((s.putValve v
                    { x with state := .test .hold d.toNat, active := 0, pull := 0, out := out }).withReply
                      0xA9 tag [0] .nothing))))))))) ∧
  (∀ (s : State) (v : Fin 16) (ph : TestPhase) (d : Nat), (s.valve v).state = .test ph d →
    exec (.testEnd v) s = .next
      (s.putValve v { s.valve v with state := .idle, out := false, pull := 0, active := d * 1000 })) ∧
  (∀ (s : State) (v : Fin 16), (∀ ph d, (s.valve v).state ≠ .test ph d) → exec (.testEnd v) s = .next s)

/-- ENABLE_VALVE and DISABLE_VALVE (R133, R134): disabling cuts the OPEN action (CUT) and removes the QUEUED ones (MISSED)
of its queue (R111). -/
def Obligations.EnableAndDisableAValve : Prop :=
  (∀ (s : State) (tag : Byte) (v : Fin 16), s.linkReady →
    exec (.enableValve tag (put8 v.val)) s = .next
      ((if (s.valve v).state = .disabled then s.putValve v { s.valve v with state := .idle, active := 0 }
        else s).withReply 0xAA tag ([0] ++ put8 (s.valve v).state.code) .nothing)) ∧
  (∀ (s : State) (tag : Byte) (v : Fin 16), s.linkReady → (s.valve v).state = .disabled →
    exec (.disableValve tag (put8 v.val)) s = .next (s.withReply 0xAB tag [0, 0, 0, 0] .nothing)) ∧
  (∀ (s : State) (tag : Byte) (v : Fin 16), s.linkReady → (s.valve v).state ≠ .disabled →
    ∃ u : State, exec (.disableValve tag (put8 v.val)) s = .next (u.withReply 0xAB tag
        ([0] ++ put8 (openContribs (s.queue v)).length ++ put16 (queuedContribs (s.queue v)).length) .nothing) ∧
      u = { s with
        table := s.table.withOutcomes (purged (s.queue v)),
        sched := { s.sched with queues := u.sched.queues }, drive := { s.drive with valves := u.drive.valves } } ∧
      u.valve v = { s.valve v with state := .disabled, out := false, pull := 0 } ∧ u.queue v = [] ∧
      (∀ w : Fin 16, w ≠ v → u.valve w = s.valve w ∧ u.queue w = s.queue w)) ∧
  (∀ (s : State) (tag n : Byte), s.linkReady → 16 ≤ n.toNat →
    exec (.enableValve tag [n]) s = .next (s.withReply 0xAA tag [3] .nothing) ∧
    exec (.disableValve tag [n]) s = .next (s.withReply 0xAB tag [3] .nothing))

/-- OVERTIME of a valve in PULL_IN or HOLD (R111, R126, R127): DISABLED with its active time at the max open time, the OPEN
action's contributions CUT and the QUEUED ones' MISSED, its queue empty, VALVE_OVERTIME, then VALVE_EVENT with the
counts; in any other state nothing. The command acts whenever the timer runs (model's choice, log 2). -/
def Obligations.OvertimeDisablesAndPurges : Prop :=
  (∀ (s : State) (v : Fin 16), ((s.valve v).state = .pullIn ∨ (s.valve v).state = .hold) →
    ∃ u : State, exec (.overtime v) s = .next ((u.occur .valveOvertime).offer
        (.valveOvertime v (openContribs (s.queue v)).length (queuedContribs (s.queue v)).length)) ∧
      u = { s with
        table := s.table.withOutcomes (purged (s.queue v)),
        sched := { s.sched with queues := u.sched.queues }, drive := { s.drive with valves := u.drive.valves } } ∧
      u.valve v = { s.valve v with
        state := .disabled, out := false, pull := 0, active := (s.valve v).cfg.maxOpen * 1000 } ∧
      u.queue v = [] ∧ (∀ w : Fin 16, w ≠ v → u.valve w = s.valve w ∧ u.queue w = s.queue w)) ∧
  (∀ (s : State) (v : Fin 16), (s.valve v).state ≠ .pullIn → (s.valve v).state ≠ .hold →
    exec (.overtime v) s = .next s)

/-- The rail (R107, R130, R152, R153): falling LOW cuts every valve in PULL_IN, HOLD or TEST, the contributions of its OPEN
action CUT, and keeps the QUEUED actions, RAIL_LOW before LINE_EVENT RAIL; rising NORMAL moves no valve; a rail already
there changes nothing. The command sets VSNS (model's choice, log 21). -/
def Obligations.RailEntriesCutAndRelease : Prop :=
  (∀ s : State, s.rail.state = .normal →
    ∃ u : State, exec .railLowEntry s = .next ((u.occur .railLow).offer (.rail .low)) ∧
      u = { s with
        pins := { s.pins with vsns := .below }, rail := ⟨.low, 0⟩, table := u.table,
        sched := { s.sched with queues := u.sched.queues },
        drive := { s.drive with rail := .low, valves := u.drive.valves } } ∧
      (∀ v : Fin 16, (s.valve v).isActive = true →
        u.valve v = { s.valve v with state := .idle, out := false, pull := 0 } ∧
        u.queue v = (s.queue v).filter (fun a => a.state == .queued)) ∧
      (∀ v : Fin 16, (s.valve v).isActive = false → u.valve v = s.valve v ∧ u.queue v = s.queue v) ∧
      u.table = s.table.withOutcomes (served .cut
        ((allValves.filter (fun v => (s.valve v).isActive)).flatMap (fun v => openContribs (s.queue v))))) ∧
  (∀ s : State, s.rail.state = .low →
    exec .railNormalEntry s = .next ({ s with
      rail := ⟨.normal, 0⟩, drive := { s.drive with rail := .normal },
      pins := { s.pins with vsns := .above } }.offer (.rail .normal))) ∧
  (∀ s : State, s.rail.state = .low → exec .railLowEntry s = .next s) ∧
  (∀ s : State, s.rail.state = .normal → exec .railNormalEntry s = .next s)

/-! ### Invariants every step keeps -/

/-- The stores stay within their bounds, tags stay distinct, and no queue holds a contribution without a decided record
(R49, R50, R62, R90 to R92, R167, R171). -/
def Obligations.EveryStepKeepsTheStores : Prop :=
  ∀ s t : State, s.storesWf → s.linkWf → step s = .next t → t.storesWf ∧ t.linkWf

/-- Outside ARMED the lanes stay OFF and the table, queues and valves empty; a DISABLED valve's queue stays empty (Table
7-2, R112, R135, R150). -/
def Obligations.EveryStepKeepsTheLineStates : Prop :=
  ∀ s t : State, s.lineWf → s.disabledWf → step s = .next t → t.lineWf ∧ t.disabledWf

/-- An output is on only in PULL_IN, HOLD or TEST and with the rail NORMAL (R117, R130); and while a valve is in one of
these its active time stays below its max open time, whatever comes together in a microsecond (R125, R128, R137). -/
def Obligations.EveryStepKeepsTheOutputs : Prop :=
  (∀ s t : State, s.outputsWf → step s = .next t → t.outputsWf) ∧
  ∀ s t : State, s.lineWf → s.disabledWf → s.activeWf → step s = .next t → t.activeWf

/-- The Belt Position Unit keeps its ranges and its source, motion and timers in step (Table 1-1, R14 to R27). -/
def Obligations.EveryStepKeepsTheBelt : Prop :=
  ∀ s t : State, s.belt.wf → step s = .next t → t.belt.wf

/-- Between events every receiver holds what the Belt Position Unit last handed (R12, R17, R26). -/
def Obligations.EveryStepKeepsTheReceiversInStep : Prop :=
  ∀ s t : State, s.handedWf → step s = .next t → t.handedWf

/-- The part right after a reset has all of these. -/
def Obligations.InvariantsHoldAtReset : Prop :=
  State.reset.storesWf ∧ State.reset.linkWf ∧ State.reset.lineWf ∧ State.reset.disabledWf ∧
  State.reset.outputsWf ∧ State.reset.activeWf ∧ State.reset.belt.wf ∧ State.reset.handedWf
end

