-- ==== Sys2Proof/Laws/State.lean ====
section
/-! SUPPORT. What each update of State leaves and what it writes: one lemma per field per update, each true by `rfl` and
a simp lemma, so that no proof unfolds a record update. -/

namespace Sys2Proof.Machine

/-! ### putBelt -/

@[simp] theorem State.lanes_putBelt (s : State) (b : Belt) : (s.putBelt b).lanes = s.lanes := rfl
@[simp] theorem State.table_putBelt (s : State) (b : Belt) : (s.putBelt b).table = s.table := rfl
@[simp] theorem State.sched_putBelt (s : State) (b : Belt) : (s.putBelt b).sched = s.sched := rfl
@[simp] theorem State.drive_putBelt (s : State) (b : Belt) : (s.putBelt b).drive = s.drive := rfl
@[simp] theorem State.rail_putBelt (s : State) (b : Belt) : (s.putBelt b).rail = s.rail := rfl
@[simp] theorem State.ctrl_putBelt (s : State) (b : Belt) : (s.putBelt b).ctrl = s.ctrl := rfl
@[simp] theorem State.link_putBelt (s : State) (b : Belt) : (s.putBelt b).link = s.link := rfl
@[simp] theorem State.pins_putBelt (s : State) (b : Belt) : (s.putBelt b).pins = s.pins := rfl
@[simp] theorem State.now_putBelt (s : State) (b : Belt) : (s.putBelt b).now = s.now := rfl
@[simp] theorem State.order_putBelt (s : State) (b : Belt) : (s.putBelt b).order = s.order := rfl
@[simp] theorem State.pending_putBelt (s : State) (b : Belt) : (s.putBelt b).pending = s.pending := rfl

/-! ### putLane -/

@[simp] theorem State.belt_putLane (s : State) (l : Fin 8) (x : Lane) : (s.putLane l x).belt = s.belt := rfl
@[simp] theorem State.table_putLane (s : State) (l : Fin 8) (x : Lane) : (s.putLane l x).table = s.table := rfl
@[simp] theorem State.sched_putLane (s : State) (l : Fin 8) (x : Lane) : (s.putLane l x).sched = s.sched := rfl
@[simp] theorem State.drive_putLane (s : State) (l : Fin 8) (x : Lane) : (s.putLane l x).drive = s.drive := rfl
@[simp] theorem State.rail_putLane (s : State) (l : Fin 8) (x : Lane) : (s.putLane l x).rail = s.rail := rfl
@[simp] theorem State.ctrl_putLane (s : State) (l : Fin 8) (x : Lane) : (s.putLane l x).ctrl = s.ctrl := rfl
@[simp] theorem State.link_putLane (s : State) (l : Fin 8) (x : Lane) : (s.putLane l x).link = s.link := rfl
@[simp] theorem State.pins_putLane (s : State) (l : Fin 8) (x : Lane) : (s.putLane l x).pins = s.pins := rfl
@[simp] theorem State.now_putLane (s : State) (l : Fin 8) (x : Lane) : (s.putLane l x).now = s.now := rfl
@[simp] theorem State.order_putLane (s : State) (l : Fin 8) (x : Lane) : (s.putLane l x).order = s.order := rfl
@[simp] theorem State.pending_putLane (s : State) (l : Fin 8) (x : Lane) : (s.putLane l x).pending = s.pending := rfl

/-! ### putLaneState -/

@[simp] theorem State.belt_putLaneState (s : State) (l : Fin 8) (x : LaneState) : (s.putLaneState l x).belt = s.belt := rfl
@[simp] theorem State.table_putLaneState (s : State) (l : Fin 8) (x : LaneState) : (s.putLaneState l x).table = s.table := rfl
@[simp] theorem State.sched_putLaneState (s : State) (l : Fin 8) (x : LaneState) : (s.putLaneState l x).sched = s.sched := rfl
@[simp] theorem State.drive_putLaneState (s : State) (l : Fin 8) (x : LaneState) : (s.putLaneState l x).drive = s.drive := rfl
@[simp] theorem State.rail_putLaneState (s : State) (l : Fin 8) (x : LaneState) : (s.putLaneState l x).rail = s.rail := rfl
@[simp] theorem State.ctrl_putLaneState (s : State) (l : Fin 8) (x : LaneState) : (s.putLaneState l x).ctrl = s.ctrl := rfl
@[simp] theorem State.link_putLaneState (s : State) (l : Fin 8) (x : LaneState) : (s.putLaneState l x).link = s.link := rfl
@[simp] theorem State.pins_putLaneState (s : State) (l : Fin 8) (x : LaneState) : (s.putLaneState l x).pins = s.pins := rfl
@[simp] theorem State.now_putLaneState (s : State) (l : Fin 8) (x : LaneState) : (s.putLaneState l x).now = s.now := rfl
@[simp] theorem State.order_putLaneState (s : State) (l : Fin 8) (x : LaneState) : (s.putLaneState l x).order = s.order := rfl
@[simp] theorem State.pending_putLaneState (s : State) (l : Fin 8) (x : LaneState) : (s.putLaneState l x).pending = s.pending := rfl

/-! ### putValve -/

@[simp] theorem State.belt_putValve (s : State) (v : Fin 16) (x : Valve) : (s.putValve v x).belt = s.belt := rfl
@[simp] theorem State.lanes_putValve (s : State) (v : Fin 16) (x : Valve) : (s.putValve v x).lanes = s.lanes := rfl
@[simp] theorem State.table_putValve (s : State) (v : Fin 16) (x : Valve) : (s.putValve v x).table = s.table := rfl
@[simp] theorem State.sched_putValve (s : State) (v : Fin 16) (x : Valve) : (s.putValve v x).sched = s.sched := rfl
@[simp] theorem State.rail_putValve (s : State) (v : Fin 16) (x : Valve) : (s.putValve v x).rail = s.rail := rfl
@[simp] theorem State.ctrl_putValve (s : State) (v : Fin 16) (x : Valve) : (s.putValve v x).ctrl = s.ctrl := rfl
@[simp] theorem State.link_putValve (s : State) (v : Fin 16) (x : Valve) : (s.putValve v x).link = s.link := rfl
@[simp] theorem State.pins_putValve (s : State) (v : Fin 16) (x : Valve) : (s.putValve v x).pins = s.pins := rfl
@[simp] theorem State.now_putValve (s : State) (v : Fin 16) (x : Valve) : (s.putValve v x).now = s.now := rfl
@[simp] theorem State.order_putValve (s : State) (v : Fin 16) (x : Valve) : (s.putValve v x).order = s.order := rfl
@[simp] theorem State.pending_putValve (s : State) (v : Fin 16) (x : Valve) : (s.putValve v x).pending = s.pending := rfl

/-! ### putQueue -/

@[simp] theorem State.belt_putQueue (s : State) (v : Fin 16) (q : List Action) : (s.putQueue v q).belt = s.belt := rfl
@[simp] theorem State.lanes_putQueue (s : State) (v : Fin 16) (q : List Action) : (s.putQueue v q).lanes = s.lanes := rfl
@[simp] theorem State.table_putQueue (s : State) (v : Fin 16) (q : List Action) : (s.putQueue v q).table = s.table := rfl
@[simp] theorem State.drive_putQueue (s : State) (v : Fin 16) (q : List Action) : (s.putQueue v q).drive = s.drive := rfl
@[simp] theorem State.rail_putQueue (s : State) (v : Fin 16) (q : List Action) : (s.putQueue v q).rail = s.rail := rfl
@[simp] theorem State.ctrl_putQueue (s : State) (v : Fin 16) (q : List Action) : (s.putQueue v q).ctrl = s.ctrl := rfl
@[simp] theorem State.link_putQueue (s : State) (v : Fin 16) (q : List Action) : (s.putQueue v q).link = s.link := rfl
@[simp] theorem State.pins_putQueue (s : State) (v : Fin 16) (q : List Action) : (s.putQueue v q).pins = s.pins := rfl
@[simp] theorem State.now_putQueue (s : State) (v : Fin 16) (q : List Action) : (s.putQueue v q).now = s.now := rfl
@[simp] theorem State.order_putQueue (s : State) (v : Fin 16) (q : List Action) : (s.putQueue v q).order = s.order := rfl
@[simp] theorem State.pending_putQueue (s : State) (v : Fin 16) (q : List Action) : (s.putQueue v q).pending = s.pending := rfl

/-! ### putRecords -/

@[simp] theorem State.belt_putRecords (s : State) (rs : List ItemRecord) : (s.putRecords rs).belt = s.belt := rfl
@[simp] theorem State.lanes_putRecords (s : State) (rs : List ItemRecord) : (s.putRecords rs).lanes = s.lanes := rfl
@[simp] theorem State.sched_putRecords (s : State) (rs : List ItemRecord) : (s.putRecords rs).sched = s.sched := rfl
@[simp] theorem State.drive_putRecords (s : State) (rs : List ItemRecord) : (s.putRecords rs).drive = s.drive := rfl
@[simp] theorem State.rail_putRecords (s : State) (rs : List ItemRecord) : (s.putRecords rs).rail = s.rail := rfl
@[simp] theorem State.ctrl_putRecords (s : State) (rs : List ItemRecord) : (s.putRecords rs).ctrl = s.ctrl := rfl
@[simp] theorem State.link_putRecords (s : State) (rs : List ItemRecord) : (s.putRecords rs).link = s.link := rfl
@[simp] theorem State.pins_putRecords (s : State) (rs : List ItemRecord) : (s.putRecords rs).pins = s.pins := rfl
@[simp] theorem State.now_putRecords (s : State) (rs : List ItemRecord) : (s.putRecords rs).now = s.now := rfl
@[simp] theorem State.order_putRecords (s : State) (rs : List ItemRecord) : (s.putRecords rs).order = s.order := rfl
@[simp] theorem State.pending_putRecords (s : State) (rs : List ItemRecord) : (s.putRecords rs).pending = s.pending := rfl

/-! ### putFlag -/

@[simp] theorem State.belt_putFlag (s : State) (f : FaultFlag) (x : FlagState) : (s.putFlag f x).belt = s.belt := rfl
@[simp] theorem State.lanes_putFlag (s : State) (f : FaultFlag) (x : FlagState) : (s.putFlag f x).lanes = s.lanes := rfl
@[simp] theorem State.table_putFlag (s : State) (f : FaultFlag) (x : FlagState) : (s.putFlag f x).table = s.table := rfl
@[simp] theorem State.sched_putFlag (s : State) (f : FaultFlag) (x : FlagState) : (s.putFlag f x).sched = s.sched := rfl
@[simp] theorem State.drive_putFlag (s : State) (f : FaultFlag) (x : FlagState) : (s.putFlag f x).drive = s.drive := rfl
@[simp] theorem State.rail_putFlag (s : State) (f : FaultFlag) (x : FlagState) : (s.putFlag f x).rail = s.rail := rfl
@[simp] theorem State.link_putFlag (s : State) (f : FaultFlag) (x : FlagState) : (s.putFlag f x).link = s.link := rfl
@[simp] theorem State.pins_putFlag (s : State) (f : FaultFlag) (x : FlagState) : (s.putFlag f x).pins = s.pins := rfl
@[simp] theorem State.now_putFlag (s : State) (f : FaultFlag) (x : FlagState) : (s.putFlag f x).now = s.now := rfl
@[simp] theorem State.order_putFlag (s : State) (f : FaultFlag) (x : FlagState) : (s.putFlag f x).order = s.order := rfl
@[simp] theorem State.pending_putFlag (s : State) (f : FaultFlag) (x : FlagState) : (s.putFlag f x).pending = s.pending := rfl

/-! ### putLine -/

@[simp] theorem State.belt_putLine (s : State) (l : LineState) : (s.putLine l).belt = s.belt := rfl
@[simp] theorem State.lanes_putLine (s : State) (l : LineState) : (s.putLine l).lanes = s.lanes := rfl
@[simp] theorem State.table_putLine (s : State) (l : LineState) : (s.putLine l).table = s.table := rfl
@[simp] theorem State.sched_putLine (s : State) (l : LineState) : (s.putLine l).sched = s.sched := rfl
@[simp] theorem State.drive_putLine (s : State) (l : LineState) : (s.putLine l).drive = s.drive := rfl
@[simp] theorem State.rail_putLine (s : State) (l : LineState) : (s.putLine l).rail = s.rail := rfl
@[simp] theorem State.link_putLine (s : State) (l : LineState) : (s.putLine l).link = s.link := rfl
@[simp] theorem State.pins_putLine (s : State) (l : LineState) : (s.putLine l).pins = s.pins := rfl
@[simp] theorem State.now_putLine (s : State) (l : LineState) : (s.putLine l).now = s.now := rfl
@[simp] theorem State.order_putLine (s : State) (l : LineState) : (s.putLine l).order = s.order := rfl
@[simp] theorem State.pending_putLine (s : State) (l : LineState) : (s.putLine l).pending = s.pending := rfl

/-! ### putRx -/

@[simp] theorem State.belt_putRx (s : State) (r : Receiver) : (s.putRx r).belt = s.belt := rfl
@[simp] theorem State.lanes_putRx (s : State) (r : Receiver) : (s.putRx r).lanes = s.lanes := rfl
@[simp] theorem State.table_putRx (s : State) (r : Receiver) : (s.putRx r).table = s.table := rfl
@[simp] theorem State.sched_putRx (s : State) (r : Receiver) : (s.putRx r).sched = s.sched := rfl
@[simp] theorem State.drive_putRx (s : State) (r : Receiver) : (s.putRx r).drive = s.drive := rfl
@[simp] theorem State.rail_putRx (s : State) (r : Receiver) : (s.putRx r).rail = s.rail := rfl
@[simp] theorem State.ctrl_putRx (s : State) (r : Receiver) : (s.putRx r).ctrl = s.ctrl := rfl
@[simp] theorem State.pins_putRx (s : State) (r : Receiver) : (s.putRx r).pins = s.pins := rfl
@[simp] theorem State.now_putRx (s : State) (r : Receiver) : (s.putRx r).now = s.now := rfl
@[simp] theorem State.order_putRx (s : State) (r : Receiver) : (s.putRx r).order = s.order := rfl
@[simp] theorem State.pending_putRx (s : State) (r : Receiver) : (s.putRx r).pending = s.pending := rfl

/-! ### updateRecord -/

@[simp] theorem State.belt_updateRecord (s : State) (tag : Nat) (f : ItemRecord → ItemRecord) : (s.updateRecord tag f).belt = s.belt := rfl
@[simp] theorem State.lanes_updateRecord (s : State) (tag : Nat) (f : ItemRecord → ItemRecord) : (s.updateRecord tag f).lanes = s.lanes := rfl
@[simp] theorem State.sched_updateRecord (s : State) (tag : Nat) (f : ItemRecord → ItemRecord) : (s.updateRecord tag f).sched = s.sched := rfl
@[simp] theorem State.drive_updateRecord (s : State) (tag : Nat) (f : ItemRecord → ItemRecord) : (s.updateRecord tag f).drive = s.drive := rfl
@[simp] theorem State.rail_updateRecord (s : State) (tag : Nat) (f : ItemRecord → ItemRecord) : (s.updateRecord tag f).rail = s.rail := rfl
@[simp] theorem State.ctrl_updateRecord (s : State) (tag : Nat) (f : ItemRecord → ItemRecord) : (s.updateRecord tag f).ctrl = s.ctrl := rfl
@[simp] theorem State.link_updateRecord (s : State) (tag : Nat) (f : ItemRecord → ItemRecord) : (s.updateRecord tag f).link = s.link := rfl
@[simp] theorem State.pins_updateRecord (s : State) (tag : Nat) (f : ItemRecord → ItemRecord) : (s.updateRecord tag f).pins = s.pins := rfl
@[simp] theorem State.now_updateRecord (s : State) (tag : Nat) (f : ItemRecord → ItemRecord) : (s.updateRecord tag f).now = s.now := rfl
@[simp] theorem State.order_updateRecord (s : State) (tag : Nat) (f : ItemRecord → ItemRecord) : (s.updateRecord tag f).order = s.order := rfl
@[simp] theorem State.pending_updateRecord (s : State) (tag : Nat) (f : ItemRecord → ItemRecord) : (s.updateRecord tag f).pending = s.pending := rfl

/-! ### removeRecord -/

@[simp] theorem State.belt_removeRecord (s : State) (tag : Nat) : (s.removeRecord tag).belt = s.belt := rfl
@[simp] theorem State.lanes_removeRecord (s : State) (tag : Nat) : (s.removeRecord tag).lanes = s.lanes := rfl
@[simp] theorem State.sched_removeRecord (s : State) (tag : Nat) : (s.removeRecord tag).sched = s.sched := rfl
@[simp] theorem State.drive_removeRecord (s : State) (tag : Nat) : (s.removeRecord tag).drive = s.drive := rfl
@[simp] theorem State.rail_removeRecord (s : State) (tag : Nat) : (s.removeRecord tag).rail = s.rail := rfl
@[simp] theorem State.ctrl_removeRecord (s : State) (tag : Nat) : (s.removeRecord tag).ctrl = s.ctrl := rfl
@[simp] theorem State.link_removeRecord (s : State) (tag : Nat) : (s.removeRecord tag).link = s.link := rfl
@[simp] theorem State.pins_removeRecord (s : State) (tag : Nat) : (s.removeRecord tag).pins = s.pins := rfl
@[simp] theorem State.now_removeRecord (s : State) (tag : Nat) : (s.removeRecord tag).now = s.now := rfl
@[simp] theorem State.order_removeRecord (s : State) (tag : Nat) : (s.removeRecord tag).order = s.order := rfl
@[simp] theorem State.pending_removeRecord (s : State) (tag : Nat) : (s.removeRecord tag).pending = s.pending := rfl

/-! ### writeOutcome -/

@[simp] theorem State.belt_writeOutcome (s : State) (o : TargetOutcome) (c : Contribution) : (s.writeOutcome o c).belt = s.belt := rfl
@[simp] theorem State.lanes_writeOutcome (s : State) (o : TargetOutcome) (c : Contribution) : (s.writeOutcome o c).lanes = s.lanes := rfl
@[simp] theorem State.sched_writeOutcome (s : State) (o : TargetOutcome) (c : Contribution) : (s.writeOutcome o c).sched = s.sched := rfl
@[simp] theorem State.drive_writeOutcome (s : State) (o : TargetOutcome) (c : Contribution) : (s.writeOutcome o c).drive = s.drive := rfl
@[simp] theorem State.rail_writeOutcome (s : State) (o : TargetOutcome) (c : Contribution) : (s.writeOutcome o c).rail = s.rail := rfl
@[simp] theorem State.ctrl_writeOutcome (s : State) (o : TargetOutcome) (c : Contribution) : (s.writeOutcome o c).ctrl = s.ctrl := rfl
@[simp] theorem State.link_writeOutcome (s : State) (o : TargetOutcome) (c : Contribution) : (s.writeOutcome o c).link = s.link := rfl
@[simp] theorem State.pins_writeOutcome (s : State) (o : TargetOutcome) (c : Contribution) : (s.writeOutcome o c).pins = s.pins := rfl
@[simp] theorem State.now_writeOutcome (s : State) (o : TargetOutcome) (c : Contribution) : (s.writeOutcome o c).now = s.now := rfl
@[simp] theorem State.order_writeOutcome (s : State) (o : TargetOutcome) (c : Contribution) : (s.writeOutcome o c).order = s.order := rfl
@[simp] theorem State.pending_writeOutcome (s : State) (o : TargetOutcome) (c : Contribution) : (s.writeOutcome o c).pending = s.pending := rfl

/-! ### lanesSource -/

@[simp] theorem State.belt_lanesSource (s : State) (k : SourceKind) : (s.lanesSource k).belt = s.belt := rfl
@[simp] theorem State.table_lanesSource (s : State) (k : SourceKind) : (s.lanesSource k).table = s.table := rfl
@[simp] theorem State.sched_lanesSource (s : State) (k : SourceKind) : (s.lanesSource k).sched = s.sched := rfl
@[simp] theorem State.drive_lanesSource (s : State) (k : SourceKind) : (s.lanesSource k).drive = s.drive := rfl
@[simp] theorem State.rail_lanesSource (s : State) (k : SourceKind) : (s.lanesSource k).rail = s.rail := rfl
@[simp] theorem State.ctrl_lanesSource (s : State) (k : SourceKind) : (s.lanesSource k).ctrl = s.ctrl := rfl
@[simp] theorem State.link_lanesSource (s : State) (k : SourceKind) : (s.lanesSource k).link = s.link := rfl
@[simp] theorem State.pins_lanesSource (s : State) (k : SourceKind) : (s.lanesSource k).pins = s.pins := rfl
@[simp] theorem State.now_lanesSource (s : State) (k : SourceKind) : (s.lanesSource k).now = s.now := rfl
@[simp] theorem State.order_lanesSource (s : State) (k : SourceKind) : (s.lanesSource k).order = s.order := rfl
@[simp] theorem State.pending_lanesSource (s : State) (k : SourceKind) : (s.lanesSource k).pending = s.pending := rfl

/-! ### ctrlMotion -/

@[simp] theorem State.belt_ctrlMotion (s : State) (m : Motion) : (s.ctrlMotion m).belt = s.belt := rfl
@[simp] theorem State.lanes_ctrlMotion (s : State) (m : Motion) : (s.ctrlMotion m).lanes = s.lanes := rfl
@[simp] theorem State.table_ctrlMotion (s : State) (m : Motion) : (s.ctrlMotion m).table = s.table := rfl
@[simp] theorem State.sched_ctrlMotion (s : State) (m : Motion) : (s.ctrlMotion m).sched = s.sched := rfl
@[simp] theorem State.drive_ctrlMotion (s : State) (m : Motion) : (s.ctrlMotion m).drive = s.drive := rfl
@[simp] theorem State.rail_ctrlMotion (s : State) (m : Motion) : (s.ctrlMotion m).rail = s.rail := rfl
@[simp] theorem State.link_ctrlMotion (s : State) (m : Motion) : (s.ctrlMotion m).link = s.link := rfl
@[simp] theorem State.pins_ctrlMotion (s : State) (m : Motion) : (s.ctrlMotion m).pins = s.pins := rfl
@[simp] theorem State.now_ctrlMotion (s : State) (m : Motion) : (s.ctrlMotion m).now = s.now := rfl
@[simp] theorem State.order_ctrlMotion (s : State) (m : Motion) : (s.ctrlMotion m).order = s.order := rfl
@[simp] theorem State.pending_ctrlMotion (s : State) (m : Motion) : (s.ctrlMotion m).pending = s.pending := rfl

/-! ### emptyTable -/

@[simp] theorem State.belt_emptyTable (s : State) : (s.emptyTable).belt = s.belt := rfl
@[simp] theorem State.lanes_emptyTable (s : State) : (s.emptyTable).lanes = s.lanes := rfl
@[simp] theorem State.sched_emptyTable (s : State) : (s.emptyTable).sched = s.sched := rfl
@[simp] theorem State.drive_emptyTable (s : State) : (s.emptyTable).drive = s.drive := rfl
@[simp] theorem State.rail_emptyTable (s : State) : (s.emptyTable).rail = s.rail := rfl
@[simp] theorem State.ctrl_emptyTable (s : State) : (s.emptyTable).ctrl = s.ctrl := rfl
@[simp] theorem State.link_emptyTable (s : State) : (s.emptyTable).link = s.link := rfl
@[simp] theorem State.pins_emptyTable (s : State) : (s.emptyTable).pins = s.pins := rfl
@[simp] theorem State.now_emptyTable (s : State) : (s.emptyTable).now = s.now := rfl
@[simp] theorem State.order_emptyTable (s : State) : (s.emptyTable).order = s.order := rfl
@[simp] theorem State.pending_emptyTable (s : State) : (s.emptyTable).pending = s.pending := rfl

/-! ### emptyQueues -/

@[simp] theorem State.belt_emptyQueues (s : State) : (s.emptyQueues).belt = s.belt := rfl
@[simp] theorem State.lanes_emptyQueues (s : State) : (s.emptyQueues).lanes = s.lanes := rfl
@[simp] theorem State.table_emptyQueues (s : State) : (s.emptyQueues).table = s.table := rfl
@[simp] theorem State.drive_emptyQueues (s : State) : (s.emptyQueues).drive = s.drive := rfl
@[simp] theorem State.rail_emptyQueues (s : State) : (s.emptyQueues).rail = s.rail := rfl
@[simp] theorem State.ctrl_emptyQueues (s : State) : (s.emptyQueues).ctrl = s.ctrl := rfl
@[simp] theorem State.link_emptyQueues (s : State) : (s.emptyQueues).link = s.link := rfl
@[simp] theorem State.pins_emptyQueues (s : State) : (s.emptyQueues).pins = s.pins := rfl
@[simp] theorem State.now_emptyQueues (s : State) : (s.emptyQueues).now = s.now := rfl
@[simp] theorem State.order_emptyQueues (s : State) : (s.emptyQueues).order = s.order := rfl
@[simp] theorem State.pending_emptyQueues (s : State) : (s.emptyQueues).pending = s.pending := rfl

/-! ### addRecord -/

@[simp] theorem State.belt_addRecord (s : State) (i : NewItem) : (s.addRecord i).belt = s.belt := rfl
@[simp] theorem State.lanes_addRecord (s : State) (i : NewItem) : (s.addRecord i).lanes = s.lanes := rfl
@[simp] theorem State.sched_addRecord (s : State) (i : NewItem) : (s.addRecord i).sched = s.sched := rfl
@[simp] theorem State.drive_addRecord (s : State) (i : NewItem) : (s.addRecord i).drive = s.drive := rfl
@[simp] theorem State.rail_addRecord (s : State) (i : NewItem) : (s.addRecord i).rail = s.rail := rfl
@[simp] theorem State.ctrl_addRecord (s : State) (i : NewItem) : (s.addRecord i).ctrl = s.ctrl := rfl
@[simp] theorem State.link_addRecord (s : State) (i : NewItem) : (s.addRecord i).link = s.link := rfl
@[simp] theorem State.pins_addRecord (s : State) (i : NewItem) : (s.addRecord i).pins = s.pins := rfl
@[simp] theorem State.now_addRecord (s : State) (i : NewItem) : (s.addRecord i).now = s.now := rfl
@[simp] theorem State.order_addRecord (s : State) (i : NewItem) : (s.addRecord i).order = s.order := rfl
@[simp] theorem State.pending_addRecord (s : State) (i : NewItem) : (s.addRecord i).pending = s.pending := rfl

/-! ### What each update writes -/

@[simp] theorem State.belt_putBelt (s : State) (b : Belt) : (s.putBelt b).belt = b := rfl

@[simp] theorem State.putBelt_putBelt (s : State) (b c : Belt) : (s.putBelt b).putBelt c = s.putBelt c := rfl

@[simp] theorem State.line_putLine (s : State) (l : LineState) : (s.putLine l).ctrl.line = l := rfl

@[simp] theorem State.flags_putLine (s : State) (l : LineState) : (s.putLine l).ctrl.flags = s.ctrl.flags := rfl

@[simp] theorem State.rx_putRx (s : State) (r : Receiver) : (s.putRx r).link.rx = r := rfl

@[simp] theorem State.queue_link_putRx (s : State) (r : Receiver) : (s.putRx r).link.queue = s.link.queue := rfl

@[simp] theorem State.slot_putRx (s : State) (r : Receiver) : (s.putRx r).link.slot = s.link.slot := rfl

@[simp] theorem State.hold_putRx (s : State) (r : Receiver) : (s.putRx r).link.hold = s.link.hold := rfl

@[simp] theorem State.notices_putRx (s : State) (r : Receiver) : (s.putRx r).link.notices = s.link.notices := rfl

@[simp] theorem State.mask_putRx (s : State) (r : Receiver) : (s.putRx r).link.mask = s.link.mask := rfl

@[simp] theorem State.line_putFlag (s : State) (f : FaultFlag) (x : FlagState) :
    (s.putFlag f x).ctrl.line = s.ctrl.line := rfl

@[simp] theorem State.motion_putFlag (s : State) (f : FaultFlag) (x : FlagState) :
    (s.putFlag f x).ctrl.motion = s.ctrl.motion := rfl

@[simp] theorem State.resetCause_putFlag (s : State) (f : FaultFlag) (x : FlagState) :
    (s.putFlag f x).ctrl.resetCause = s.ctrl.resetCause := rfl

@[simp] theorem State.records_putRecords (s : State) (rs : List ItemRecord) :
    (s.putRecords rs).table.records = rs := rfl

@[simp] theorem State.nextTag_putRecords (s : State) (rs : List ItemRecord) :
    (s.putRecords rs).table.nextTag = s.table.nextTag := rfl

@[simp] theorem State.position_putRecords (s : State) (rs : List ItemRecord) :
    (s.putRecords rs).table.position = s.table.position := rfl

@[simp] theorem State.motion_putRecords (s : State) (rs : List ItemRecord) :
    (s.putRecords rs).table.motion = s.table.motion := rfl

@[simp] theorem State.advances_putQueue (s : State) (v : Fin 16) (q : List Action) :
    (s.putQueue v q).sched.advances = s.sched.advances := rfl

@[simp] theorem State.position_putQueue (s : State) (v : Fin 16) (q : List Action) :
    (s.putQueue v q).sched.position = s.sched.position := rfl

@[simp] theorem State.period_putValve (s : State) (v : Fin 16) (x : Valve) :
    (s.putValve v x).drive.period = s.drive.period := rfl

@[simp] theorem State.base_putValve (s : State) (v : Fin 16) (x : Valve) :
    (s.putValve v x).drive.base = s.drive.base := rfl

@[simp] theorem State.rail_drive_putValve (s : State) (v : Fin 16) (x : Valve) :
    (s.putValve v x).drive.rail = s.drive.rail := rfl

@[simp] theorem State.motion_putValve (s : State) (v : Fin 16) (x : Valve) :
    (s.putValve v x).drive.motion = s.drive.motion := rfl

@[simp] theorem State.position_putLane (s : State) (l : Fin 8) (x : Lane) :
    (s.putLane l x).lanes.position = s.lanes.position := rfl

@[simp] theorem State.motion_putLane (s : State) (l : Fin 8) (x : Lane) :
    (s.putLane l x).lanes.motion = s.lanes.motion := rfl

@[simp] theorem State.source_putLane (s : State) (l : Fin 8) (x : Lane) :
    (s.putLane l x).lanes.source = s.lanes.source := rfl

/-! ### One lane, one valve, one queue, one flag -/

/-- A lane after a write to a lane. -/
theorem State.lane_putLane (s : State) (l k : Fin 8) (x : Lane) :
    (s.putLane l x).lane k = if l = k then x else s.lane k := by
  unfold State.lane State.putLane
  by_cases h : l = k
  · subst h; simp
  · have h' : l.val ≠ k.val := fun e => h (Fin.ext e)
    simp [h, h']

/-- The written lane reads back. -/
@[simp] theorem State.lane_putLane_self (s : State) (l : Fin 8) (x : Lane) : (s.putLane l x).lane l = x := by
  simp [State.lane_putLane]

/-- A lane after a write of a lane state. -/
theorem State.lane_putLaneState (s : State) (l k : Fin 8) (x : LaneState) :
    (s.putLaneState l x).lane k = if l = k then { s.lane l with state := x } else s.lane k := by
  rw [State.putLaneState, State.lane_putLane]

/-- A valve after a write to a valve. -/
theorem State.valve_putValve (s : State) (v w : Fin 16) (x : Valve) :
    (s.putValve v x).valve w = if v = w then x else s.valve w := by
  unfold State.valve State.putValve
  by_cases h : v = w
  · subst h; simp
  · have h' : v.val ≠ w.val := fun e => h (Fin.ext e)
    simp [h, h']

/-- The written valve reads back. -/
@[simp] theorem State.valve_putValve_self (s : State) (v : Fin 16) (x : Valve) : (s.putValve v x).valve v = x := by
  simp [State.valve_putValve]

/-- A queue after a write to a queue. -/
theorem State.queue_putQueue (s : State) (v w : Fin 16) (q : List Action) :
    (s.putQueue v q).queue w = if v = w then q else s.queue w := by
  unfold State.queue State.putQueue
  by_cases h : v = w
  · subst h; simp
  · have h' : v.val ≠ w.val := fun e => h (Fin.ext e)
    simp [h, h']

/-- The written queue reads back. -/
@[simp] theorem State.queue_putQueue_self (s : State) (v : Fin 16) (q : List Action) :
    (s.putQueue v q).queue v = q := by
  simp [State.queue_putQueue]

/-- The flag numbers are all different (Table 9-6). -/
theorem FaultFlag.number_inj {f g : FaultFlag} (h : f.number = g.number) : f = g := by
  cases f <;> cases g <;> first | rfl | exact absurd h (by decide)

/-- A flag after a write to a flag. -/
theorem State.flag_putFlag (s : State) (f g : FaultFlag) (x : FlagState) :
    (s.putFlag f x).flag g = if f = g then x else s.flag g := by
  unfold State.flag State.putFlag LineControl.flag LineControl.putFlag
  by_cases h : f = g
  · subst h; simp
  · have h' : f.number.val ≠ g.number.val := fun e => h (FaultFlag.number_inj (Fin.ext e))
    simp [h, h']

/-- The written flag reads back. -/
@[simp] theorem State.flag_putFlag_self (s : State) (f : FaultFlag) (x : FlagState) : (s.putFlag f x).flag f = x := by
  simp [State.flag_putFlag]

/-- Every queue of emptied queues is empty (R112). -/
@[simp] theorem State.queue_emptyQueues (s : State) (v : Fin 16) : s.emptyQueues.queue v = [] := by
  simp [State.emptyQueues, State.queue]

end Sys2Proof.Machine
end

