-- ==== Sys2Proof/Laws/Order.lean ====
section
/-! SUPPORT. Folds, and who goes first: what `choose` and `settle` can do, whatever the order list holds. -/

namespace Sys2Proof.Machine

/-- A property that every step of a fold keeps holds at its end. -/
theorem foldl_keeps {α β : Type} {P : β → Prop} {f : β → α → β} (keep : ∀ s x, P s → P (f s x)) :
    ∀ (xs : List α) (s : β), P s → P (xs.foldl f s)
  | [], _, h => h
  | x :: xs, s, h => foldl_keeps keep xs (f s x) (keep s x h)

/-- What every step of a fold leaves equal is equal at its end. -/
theorem foldl_same {α β γ : Type} {f : β → α → β} {g : β → γ} (same : ∀ s x, g (f s x) = g s)
    (xs : List α) (s : β) : g (xs.foldl f s) = g s :=
  foldl_keeps (P := fun t => g t = g s) (fun t x h => (same t x).trans h) xs s rfl

/-- A fold whose steps each act on what belongs to one index, and leave what belongs to another, acts on each index once. -/
theorem foldl_each {ι α β : Type} [DecidableEq ι] {f : β → ι → β} {get : β → ι → α} {g : ι → α → α}
    (own : ∀ s v, get (f s v) v = g v (get s v)) (other : ∀ s v w, v ≠ w → get (f s v) w = get s w) (w : ι) :
    ∀ (xs : List ι) (s : β), xs.Nodup → get (xs.foldl f s) w = if w ∈ xs then g w (get s w) else get s w
  | [], _, _ => by simp
  | x :: xs, s, h => by
    obtain ⟨hx, hn⟩ := List.nodup_cons.mp h
    rw [List.foldl_cons, foldl_each own other w xs (f s x) hn]
    by_cases e : w = x
    · subst e
      simp [hx, own]
    · have e' : x ≠ w := fun h => e h.symm
      simp [e, other s x w e']

/-- Every valve is in the list of all valves. -/
@[simp] theorem mem_allValves (v : Fin 16) : v ∈ allValves := by
  revert v
  decide

/-- Every lane is in the list of all lanes. -/
@[simp] theorem mem_allLanes (l : Fin 8) : l ∈ allLanes := by
  revert l
  decide

/-- The list of all valves names each once. -/
theorem nodup_allValves : allValves.Nodup := by decide

/-- The list of all lanes names each once. -/
theorem nodup_allLanes : allLanes.Nodup := by decide

/-- A fold over all valves acts on each valve once. -/
theorem foldl_allValves {α β : Type} {f : β → Fin 16 → β} {get : β → Fin 16 → α} {g : Fin 16 → α → α}
    (own : ∀ s v, get (f s v) v = g v (get s v)) (other : ∀ s v w, v ≠ w → get (f s v) w = get s w)
    (s : β) (w : Fin 16) : get (allValves.foldl f s) w = g w (get s w) := by
  rw [foldl_each own other w allValves s nodup_allValves, if_pos (mem_allValves w)]

/-- A fold over all lanes acts on each lane once. -/
theorem foldl_allLanes {α β : Type} {f : β → Fin 8 → β} {get : β → Fin 8 → α} {g : Fin 8 → α → α}
    (own : ∀ s v, get (f s v) v = g v (get s v)) (other : ∀ s v w, v ≠ w → get (f s v) w = get s w)
    (s : β) (w : Fin 8) : get (allLanes.foldl f s) w = g w (get s w) := by
  rw [foldl_each own other w allLanes s nodup_allLanes, if_pos (mem_allLanes w)]

/-- A choice among `n` ways is one of them. -/
theorem State.choose_lt (s : State) {n : Nat} (h : 0 < n) : (s.choose n).1 < n := by
  unfold State.choose
  split
  · exact h
  · exact Nat.mod_lt _ h

/-- A choice changes `order` alone. -/
theorem State.choose_snd (s : State) (n : Nat) : ∃ o, (s.choose n).2 = { s with order := o } := by
  unfold State.choose
  split
  · exact ⟨s.order, rfl⟩
  · exact ⟨_, rfl⟩

/-- Inserting an element makes a permutation. -/
theorem insertAt_perm {α : Type} (x : α) : ∀ (k : Nat) (ys : List α), (insertAt k x ys).Perm (x :: ys)
  | 0, _ => .refl _
  | _ + 1, [] => .refl _
  | k + 1, y :: ys => ((insertAt_perm x k ys).cons y).trans (.swap x y ys)

/-- An arrangement is a permutation: nothing is lost, nothing added. -/
theorem arrange_perm {α : Type} : ∀ (ks : List Nat) (xs : List α), (arrange ks xs).Perm xs
  | [], [] => .refl _
  | _ :: _, [] => .refl _
  | [], _ :: _ => .refl _
  | _ :: ks, x :: xs => (insertAt_perm x _ _).trans ((arrange_perm ks xs).cons x)

/-- Settling gives a permutation of what arrived together. -/
theorem State.settle_perm {α : Type} (s : State) (xs : List α) : (s.settle xs).1.Perm xs := by
  unfold State.settle
  split
  · exact .refl _
  · exact arrange_perm _ _

/-- Settling changes `order` alone. -/
theorem State.settle_snd {α : Type} (s : State) (xs : List α) :
    ∃ o, (s.settle xs).2 = { s with order := o } := by
  unfold State.settle
  split
  · exact ⟨s.order, rfl⟩
  · exact ⟨_, rfl⟩

/-- With nothing to settle nothing changes. -/
@[simp] theorem State.settle_nil {α : Type} (s : State) : s.settle ([] : List α) = ([], s) := rfl

end Sys2Proof.Machine
end

