-- ==== Sys2Proof/Laws/Notices.lean ====
section
/-! SUPPORT. Offering a notice and an occurrence of a flag: the only fields they can write are the flags, the notice
queue, and, where a queued notice begins in between (R172), the transmitter and the order list. -/

namespace Sys2Proof.Machine

/-- A notice begins and another is queued: the queue grows only where none was there to begin. -/
theorem Link.beginQueue_eq (l : Link) (n : Notice) : ∃ (ns : List Notice) (tx : Transmitter),
    (l.notices.length ≤ 32 → ns.length ≤ 32) ∧
    l.beginNotice.queueNotice n = { l with notices := ns, tx := tx } := by
  unfold Link.queueNotice Link.beginNotice
  split
  · rename_i m ms h
    exact ⟨ms ++ [n], .sending m.frame.bytes .nothing 0, fun hl => by rw [h] at hl; simpa using hl, rfl⟩
  · rename_i h
    exact ⟨[n], l.tx, fun _ => by simp, by simp [h]⟩

/-- What an offer can write: NOTICE_DROP, the notice queue, the transmitter, the order list. -/
theorem State.offer_eq (s : State) (n : Notice) : ∃ (c : LineControl) (ns : List Notice) (tx : Transmitter) (o : List Nat),
    (c = s.ctrl ∨ c = s.ctrl.putFlag .noticeDrop ⟨true, false⟩) ∧
    (s.link.noticeCanBegin = false → tx = s.link.tx ∧ o = s.order) ∧
    (s.link.notices.length ≤ 32 → ns.length ≤ 32) ∧
    s.offer n = { s with ctrl := c, link := { s.link with notices := ns, tx := tx }, order := o } := by
  unfold State.offer
  split
  · split
    · rename_i hr
      refine ⟨s.ctrl, s.link.notices ++ [n], s.link.tx, s.order, .inl rfl, fun _ => ⟨rfl, rfl⟩, fun _ => ?_, rfl⟩
      simp only [List.length_append, List.length_singleton]
      change s.link.notices.length < 32 at hr
      omega
    · have plain : ∀ (o : List Nat), (s.link.noticeCanBegin = false → o = s.order) →
          ∃ (c : LineControl) (ns : List Notice) (tx : Transmitter) (o' : List Nat),
            (c = s.ctrl ∨ c = s.ctrl.putFlag .noticeDrop ⟨true, false⟩) ∧
            (s.link.noticeCanBegin = false → tx = s.link.tx ∧ o' = s.order) ∧
            (s.link.notices.length ≤ 32 → ns.length ≤ 32) ∧
            { s.putFlag .noticeDrop ⟨true, false⟩ with order := o } =
              { s with ctrl := c, link := { s.link with notices := ns, tx := tx }, order := o' } :=
        fun o ho => ⟨_, s.link.notices, s.link.tx, o, .inr rfl, fun h => ⟨rfl, ho h⟩, id, rfl⟩
      unfold State.noticeDropped
      dsimp only
      split
      · exact plain s.order (fun _ => rfl)
      · unfold State.offerDropFault
        split
        · rename_i hb
          obtain ⟨o, ho⟩ := (s.putFlag .noticeDrop ⟨true, false⟩).choose_snd 2
          have hcan : s.link.noticeCanBegin = true := by
            have := hb
            simp only [Bool.and_eq_true] at this
            exact this.2
          dsimp only
          split
          · rw [ho]
            exact plain o (fun h => by rw [hcan] at h; cases h)
          · rw [ho]
            obtain ⟨ns, tx, hl, e⟩ := s.link.beginQueue_eq (.fault .noticeDrop)
            exact ⟨_, ns, tx, o, .inr rfl, (fun h => by rw [hcan] at h; cases h), hl, by
              dsimp only [State.putFlag]
              rw [e]⟩
        · exact plain s.order (fun _ => rfl)
  · exact ⟨s.ctrl, s.link.notices, s.link.tx, s.order, .inl rfl, fun _ => ⟨rfl, rfl⟩, id, rfl⟩

@[simp] theorem State.belt_offer (s : State) (n : Notice) : (s.offer n).belt = s.belt := by
  obtain ⟨_, _, _, _, _, _, _, e⟩ := s.offer_eq n; rw [e]

@[simp] theorem State.lanes_offer (s : State) (n : Notice) : (s.offer n).lanes = s.lanes := by
  obtain ⟨_, _, _, _, _, _, _, e⟩ := s.offer_eq n; rw [e]

@[simp] theorem State.table_offer (s : State) (n : Notice) : (s.offer n).table = s.table := by
  obtain ⟨_, _, _, _, _, _, _, e⟩ := s.offer_eq n; rw [e]

@[simp] theorem State.sched_offer (s : State) (n : Notice) : (s.offer n).sched = s.sched := by
  obtain ⟨_, _, _, _, _, _, _, e⟩ := s.offer_eq n; rw [e]

@[simp] theorem State.drive_offer (s : State) (n : Notice) : (s.offer n).drive = s.drive := by
  obtain ⟨_, _, _, _, _, _, _, e⟩ := s.offer_eq n; rw [e]

@[simp] theorem State.rail_offer (s : State) (n : Notice) : (s.offer n).rail = s.rail := by
  obtain ⟨_, _, _, _, _, _, _, e⟩ := s.offer_eq n; rw [e]

@[simp] theorem State.pins_offer (s : State) (n : Notice) : (s.offer n).pins = s.pins := by
  obtain ⟨_, _, _, _, _, _, _, e⟩ := s.offer_eq n; rw [e]

@[simp] theorem State.now_offer (s : State) (n : Notice) : (s.offer n).now = s.now := by
  obtain ⟨_, _, _, _, _, _, _, e⟩ := s.offer_eq n; rw [e]

@[simp] theorem State.pending_offer (s : State) (n : Notice) : (s.offer n).pending = s.pending := by
  obtain ⟨_, _, _, _, _, _, _, e⟩ := s.offer_eq n; rw [e]

@[simp] theorem State.line_offer (s : State) (n : Notice) : (s.offer n).ctrl.line = s.ctrl.line := by
  obtain ⟨_, _, _, _, h | h, _, _, e⟩ := s.offer_eq n <;> rw [e, h] <;> rfl

@[simp] theorem State.motion_ctrl_offer (s : State) (n : Notice) : (s.offer n).ctrl.motion = s.ctrl.motion := by
  obtain ⟨_, _, _, _, h | h, _, _, e⟩ := s.offer_eq n <;> rw [e, h] <;> rfl

@[simp] theorem State.resetCause_offer (s : State) (n : Notice) : (s.offer n).ctrl.resetCause = s.ctrl.resetCause := by
  obtain ⟨_, _, _, _, h | h, _, _, e⟩ := s.offer_eq n <;> rw [e, h] <;> rfl

@[simp] theorem State.settings_offer (s : State) (n : Notice) : (s.offer n).link.settings = s.link.settings := by
  obtain ⟨_, _, _, _, _, _, _, e⟩ := s.offer_eq n; rw [e]

@[simp] theorem State.rx_offer (s : State) (n : Notice) : (s.offer n).link.rx = s.link.rx := by
  obtain ⟨_, _, _, _, _, _, _, e⟩ := s.offer_eq n; rw [e]

@[simp] theorem State.queue_link_offer (s : State) (n : Notice) : (s.offer n).link.queue = s.link.queue := by
  obtain ⟨_, _, _, _, _, _, _, e⟩ := s.offer_eq n; rw [e]

@[simp] theorem State.hold_offer (s : State) (n : Notice) : (s.offer n).link.hold = s.link.hold := by
  obtain ⟨_, _, _, _, _, _, _, e⟩ := s.offer_eq n; rw [e]

@[simp] theorem State.slot_offer (s : State) (n : Notice) : (s.offer n).link.slot = s.link.slot := by
  obtain ⟨_, _, _, _, _, _, _, e⟩ := s.offer_eq n; rw [e]

@[simp] theorem State.mask_offer (s : State) (n : Notice) : (s.offer n).link.mask = s.link.mask := by
  obtain ⟨_, _, _, _, _, _, _, e⟩ := s.offer_eq n; rw [e]

/-- Where no queued notice can begin, an offer leaves the transmitter (R172). -/
theorem State.tx_offer (s : State) (n : Notice) (h : s.link.noticeCanBegin = false) :
    (s.offer n).link.tx = s.link.tx := by
  obtain ⟨_, _, _, _, _, hk, _, e⟩ := s.offer_eq n
  rw [e]; exact (hk h).1

/-- Where no queued notice can begin, an offer leaves the order list. -/
theorem State.order_offer (s : State) (n : Notice) (h : s.link.noticeCanBegin = false) :
    (s.offer n).order = s.order := by
  obtain ⟨_, _, _, _, _, hk, _, e⟩ := s.offer_eq n
  rw [e]; exact (hk h).2

/-- An offer leaves the link but for the notice queue and the transmitter. -/
theorem State.link_offer (s : State) (n : Notice) :
    (s.offer n).link = { s.link with notices := (s.offer n).link.notices, tx := (s.offer n).link.tx } := by
  obtain ⟨_, _, _, _, _, _, _, e⟩ := s.offer_eq n
  rw [e]

/-- A masked notice is left out (R171). -/
theorem State.offer_masked (s : State) (n : Notice) (h : s.link.enables n = false) : s.offer n = s := by
  simp [State.offer, h]

/-- A notice that finds room stands at the end of the queue (R171). -/
theorem State.offer_room (s : State) (n : Notice) (h : s.link.enables n = true) (hr : s.link.notices.length < 32) :
    s.offer n = { s with link := { s.link with notices := s.link.notices ++ [n] } } := by
  unfold State.offer
  rw [if_pos h, if_pos hr]
  rfl

/-- A notice that finds the queue full is dropped (R171). -/
theorem State.offer_full (s : State) (n : Notice) (h : s.link.enables n = true) (hr : 32 ≤ s.link.notices.length) :
    s.offer n = s.noticeDropped := by
  unfold State.offer
  rw [if_pos h, if_neg (Nat.not_lt.mpr hr)]

/-- An offer touches no flag but NOTICE_DROP. -/
theorem State.flag_offer (s : State) (n : Notice) {f : FaultFlag} (h : f ≠ .noticeDrop) :
    (s.offer n).flag f = s.flag f := by
  obtain ⟨c, _, _, _, hc | hc, _, _, e⟩ := s.offer_eq n
  · rw [e, hc]; rfl
  · rw [e, hc]
    change (s.putFlag .noticeDrop ⟨true, false⟩).flag f = s.flag f
    rw [State.flag_putFlag, if_neg (Ne.symm h)]

/-- An offer leaves NOTICE_DROP, or sets it with its mark clear (R171, R172). -/
theorem State.flag_offer_drop (s : State) (n : Notice) :
    (s.offer n).flag .noticeDrop = s.flag .noticeDrop ∨ (s.offer n).flag .noticeDrop = ⟨true, false⟩ := by
  obtain ⟨c, _, _, _, hc | hc, _, _, e⟩ := s.offer_eq n
  · exact .inl (by rw [e, hc]; rfl)
  · refine .inr ?_
    rw [e, hc]
    exact State.flag_putFlag_self s _ _

/-- The two ways of an occurrence (R154). -/
theorem State.occur_eq (s : State) (f : FaultFlag) :
    s.occur f = if (s.flag f).set then s.putFlag f ⟨true, false⟩
      else (s.putFlag f ⟨true, false⟩).offer (.fault f) := rfl

@[simp] theorem State.belt_occur (s : State) (f : FaultFlag) : (s.occur f).belt = s.belt := by
  unfold State.occur; split <;> simp

@[simp] theorem State.lanes_occur (s : State) (f : FaultFlag) : (s.occur f).lanes = s.lanes := by
  unfold State.occur; split <;> simp

@[simp] theorem State.table_occur (s : State) (f : FaultFlag) : (s.occur f).table = s.table := by
  unfold State.occur; split <;> simp

@[simp] theorem State.sched_occur (s : State) (f : FaultFlag) : (s.occur f).sched = s.sched := by
  unfold State.occur; split <;> simp

@[simp] theorem State.drive_occur (s : State) (f : FaultFlag) : (s.occur f).drive = s.drive := by
  unfold State.occur; split <;> simp

@[simp] theorem State.rail_occur (s : State) (f : FaultFlag) : (s.occur f).rail = s.rail := by
  unfold State.occur; split <;> simp

@[simp] theorem State.pins_occur (s : State) (f : FaultFlag) : (s.occur f).pins = s.pins := by
  unfold State.occur; split <;> simp

@[simp] theorem State.now_occur (s : State) (f : FaultFlag) : (s.occur f).now = s.now := by
  unfold State.occur; split <;> simp

@[simp] theorem State.pending_occur (s : State) (f : FaultFlag) : (s.occur f).pending = s.pending := by
  unfold State.occur; split <;> simp

@[simp] theorem State.line_occur (s : State) (f : FaultFlag) : (s.occur f).ctrl.line = s.ctrl.line := by
  unfold State.occur; split <;> simp

@[simp] theorem State.motion_ctrl_occur (s : State) (f : FaultFlag) : (s.occur f).ctrl.motion = s.ctrl.motion := by
  unfold State.occur; split <;> simp

@[simp] theorem State.resetCause_occur (s : State) (f : FaultFlag) : (s.occur f).ctrl.resetCause = s.ctrl.resetCause := by
  unfold State.occur; split <;> simp

@[simp] theorem State.settings_occur (s : State) (f : FaultFlag) : (s.occur f).link.settings = s.link.settings := by
  unfold State.occur; split <;> simp

@[simp] theorem State.rx_occur (s : State) (f : FaultFlag) : (s.occur f).link.rx = s.link.rx := by
  unfold State.occur; split <;> simp

@[simp] theorem State.queue_link_occur (s : State) (f : FaultFlag) : (s.occur f).link.queue = s.link.queue := by
  unfold State.occur; split <;> simp

@[simp] theorem State.hold_occur (s : State) (f : FaultFlag) : (s.occur f).link.hold = s.link.hold := by
  unfold State.occur; split <;> simp

@[simp] theorem State.slot_occur (s : State) (f : FaultFlag) : (s.occur f).link.slot = s.link.slot := by
  unfold State.occur; split <;> simp

@[simp] theorem State.mask_occur (s : State) (f : FaultFlag) : (s.occur f).link.mask = s.link.mask := by
  unfold State.occur; split <;> simp

/-- Where no queued notice can begin, an occurrence leaves the transmitter. -/
theorem State.tx_occur (s : State) (f : FaultFlag) (h : s.link.noticeCanBegin = false) :
    (s.occur f).link.tx = s.link.tx := by
  unfold State.occur
  split
  · rfl
  · exact State.tx_offer _ _ h

/-- Where no queued notice can begin, an occurrence leaves the order list. -/
theorem State.order_occur (s : State) (f : FaultFlag) (h : s.link.noticeCanBegin = false) :
    (s.occur f).order = s.order := by
  unfold State.occur
  split
  · rfl
  · exact State.order_offer _ _ h

/-- An occurrence leaves the link but for the notice queue and the transmitter. -/
theorem State.link_occur (s : State) (f : FaultFlag) :
    (s.occur f).link = { s.link with notices := (s.occur f).link.notices, tx := (s.occur f).link.tx } := by
  unfold State.occur
  split
  · rfl
  · exact State.link_offer _ _

/-- After an occurrence the flag is set with its mark clear (R154). -/
theorem State.flag_occur_self (s : State) (f : FaultFlag) : (s.occur f).flag f = ⟨true, false⟩ := by
  unfold State.occur
  split
  · simp
  · by_cases h : f = .noticeDrop
    · subst h
      rcases (s.putFlag .noticeDrop ⟨true, false⟩).flag_offer_drop (.fault .noticeDrop) with e | e <;> rw [e]
      simp
    · rw [State.flag_offer _ _ h]; simp

/-- An occurrence touches no other flag, but for NOTICE_DROP when its FAULT notice is dropped (R154, R172). -/
theorem State.flag_occur (s : State) (f : FaultFlag) {g : FaultFlag} (h : g ≠ f) (hd : g ≠ .noticeDrop) :
    (s.occur f).flag g = s.flag g := by
  unfold State.occur
  split
  · rw [State.flag_putFlag, if_neg (Ne.symm h)]
  · rw [State.flag_offer _ _ hd, State.flag_putFlag, if_neg (Ne.symm h)]

/-- The notice queue keeps its bound through an offer (R171). -/
theorem State.notices_offer_le (s : State) (n : Notice) (h : s.link.notices.length ≤ 32) :
    (s.offer n).link.notices.length ≤ 32 := by
  obtain ⟨_, _, _, _, _, _, hl, e⟩ := s.offer_eq n
  rw [e]; exact hl h

/-- The notice queue keeps its bound through an occurrence (R171, R154). -/
theorem State.notices_occur_le (s : State) (f : FaultFlag) (h : s.link.notices.length ≤ 32) :
    (s.occur f).link.notices.length ≤ 32 := by
  unfold State.occur
  split
  · exact h
  · exact State.notices_offer_le _ _ h

end Sys2Proof.Machine
end

