-- ==== Sys2Proof/Laws/Frames.lean ====
section
/-! SUPPORT. The frame of every shared operation: the fields of State it leaves as they are, one lemma per operation. A
prover cites these in place of unfolding the operation. -/

namespace Sys2Proof.Machine

/-! ### Schedule -/

/-- Writing outcomes changes the record list alone (R63). -/
theorem State.writeOutcomes_eq (o : TargetOutcome) : ∀ (cs : List Contribution) (s : State),
    ∃ rs, s.writeOutcomes o cs = s.putRecords rs
  | [], s => ⟨s.table.records, rfl⟩
  | c :: cs, s => by
    obtain ⟨rs, h⟩ := State.writeOutcomes_eq o cs (s.writeOutcome o c)
    exact ⟨rs, h⟩

@[simp] theorem State.writeOutcomes_frame (s : State) (o : TargetOutcome) (cs : List Contribution) :
    (s.writeOutcomes o cs).belt = s.belt ∧ (s.writeOutcomes o cs).lanes = s.lanes ∧ (s.writeOutcomes o cs).sched =
    s.sched ∧ (s.writeOutcomes o cs).drive = s.drive ∧ (s.writeOutcomes o cs).rail = s.rail ∧ (s.writeOutcomes o
    cs).ctrl = s.ctrl ∧ (s.writeOutcomes o cs).link = s.link ∧ (s.writeOutcomes o cs).pins = s.pins ∧
    (s.writeOutcomes o cs).now = s.now ∧ (s.writeOutcomes o cs).order = s.order ∧ (s.writeOutcomes o cs).pending =
    s.pending := by
  obtain ⟨rs, h⟩ := State.writeOutcomes_eq o cs s
  rw [h]
  simp

@[simp] theorem State.cancelOnValve_frame (s : State) (tag : Nat) (v : Fin 16) :
    (State.cancelOnValve tag s v).belt = s.belt ∧ (State.cancelOnValve tag s v).lanes = s.lanes ∧
    (State.cancelOnValve tag s v).drive = s.drive ∧ (State.cancelOnValve tag s v).rail = s.rail ∧
    (State.cancelOnValve tag s v).ctrl = s.ctrl ∧ (State.cancelOnValve tag s v).link = s.link ∧ (State.cancelOnValve
    tag s v).pins = s.pins ∧ (State.cancelOnValve tag s v).now = s.now ∧ (State.cancelOnValve tag s v).order =
    s.order ∧ (State.cancelOnValve tag s v).pending = s.pending := by
  unfold State.cancelOnValve
  simp

@[simp] theorem State.retireOnValve_frame (s : State) (tag : Nat) (v : Fin 16) :
    (State.retireOnValve tag s v).belt = s.belt ∧ (State.retireOnValve tag s v).lanes = s.lanes ∧
    (State.retireOnValve tag s v).drive = s.drive ∧ (State.retireOnValve tag s v).rail = s.rail ∧
    (State.retireOnValve tag s v).ctrl = s.ctrl ∧ (State.retireOnValve tag s v).link = s.link ∧ (State.retireOnValve
    tag s v).pins = s.pins ∧ (State.retireOnValve tag s v).now = s.now ∧ (State.retireOnValve tag s v).order =
    s.order ∧ (State.retireOnValve tag s v).pending = s.pending := by
  unfold State.retireOnValve
  simp

@[simp] theorem State.cancelRemoval_frame (s : State) (tag : Nat) :
    (s.cancelRemoval tag).belt = s.belt ∧ (s.cancelRemoval tag).lanes = s.lanes ∧ (s.cancelRemoval tag).drive =
    s.drive ∧ (s.cancelRemoval tag).rail = s.rail ∧ (s.cancelRemoval tag).ctrl = s.ctrl ∧ (s.cancelRemoval tag).link
    = s.link ∧ (s.cancelRemoval tag).pins = s.pins ∧ (s.cancelRemoval tag).now = s.now ∧ (s.cancelRemoval tag).order
    = s.order ∧ (s.cancelRemoval tag).pending = s.pending := by
  have h := foldl_same (f := State.cancelOnValve tag) (g := fun t : State => (t.belt, t.lanes, t.drive, t.rail, t.ctrl, t.link, t.pins, t.now, t.order, t.pending)) (fun t x => by simp)
  simp only [Prod.mk.injEq] at h
  unfold State.cancelRemoval
  (try dsimp only)
  (repeat' split) <;> simp [h]

@[simp] theorem State.retireRemoval_frame (s : State) (tag : Nat) :
    (s.retireRemoval tag).belt = s.belt ∧ (s.retireRemoval tag).lanes = s.lanes ∧ (s.retireRemoval tag).drive =
    s.drive ∧ (s.retireRemoval tag).rail = s.rail ∧ (s.retireRemoval tag).ctrl = s.ctrl ∧ (s.retireRemoval tag).link
    = s.link ∧ (s.retireRemoval tag).pins = s.pins ∧ (s.retireRemoval tag).now = s.now ∧ (s.retireRemoval tag).order
    = s.order ∧ (s.retireRemoval tag).pending = s.pending := by
  have h := foldl_same (f := State.retireOnValve tag) (g := fun t : State => (t.belt, t.lanes, t.drive, t.rail, t.ctrl, t.link, t.pins, t.now, t.order, t.pending)) (fun t x => by simp)
  simp only [Prod.mk.injEq] at h
  unfold State.retireRemoval
  (try dsimp only)
  (repeat' split) <;> simp [h]

@[simp] theorem State.cutOpenAction_frame (s : State) (v : Fin 16) :
    (s.cutOpenAction v).belt = s.belt ∧ (s.cutOpenAction v).lanes = s.lanes ∧ (s.cutOpenAction v).drive = s.drive ∧
    (s.cutOpenAction v).rail = s.rail ∧ (s.cutOpenAction v).ctrl = s.ctrl ∧ (s.cutOpenAction v).link = s.link ∧
    (s.cutOpenAction v).pins = s.pins ∧ (s.cutOpenAction v).now = s.now ∧ (s.cutOpenAction v).order = s.order ∧
    (s.cutOpenAction v).pending = s.pending := by
  unfold State.cutOpenAction
  simp

@[simp] theorem State.purgeQueue_frame (s : State) (v : Fin 16) :
    (s.purgeQueue v).belt = s.belt ∧ (s.purgeQueue v).lanes = s.lanes ∧ (s.purgeQueue v).drive = s.drive ∧
    (s.purgeQueue v).rail = s.rail ∧ (s.purgeQueue v).ctrl = s.ctrl ∧ (s.purgeQueue v).link = s.link ∧ (s.purgeQueue
    v).pins = s.pins ∧ (s.purgeQueue v).now = s.now ∧ (s.purgeQueue v).order = s.order ∧ (s.purgeQueue v).pending =
    s.pending := by
  unfold State.purgeQueue
  simp

@[simp] theorem State.workOutAdvance_frame (s : State) (n : Nat) (v : Fin 16) :
    (State.workOutAdvance n s v).belt = s.belt ∧ (State.workOutAdvance n s v).lanes = s.lanes ∧
    (State.workOutAdvance n s v).table = s.table ∧ (State.workOutAdvance n s v).drive = s.drive ∧
    (State.workOutAdvance n s v).rail = s.rail ∧ (State.workOutAdvance n s v).ctrl = s.ctrl ∧ (State.workOutAdvance
    n s v).link = s.link ∧ (State.workOutAdvance n s v).pins = s.pins ∧ (State.workOutAdvance n s v).now = s.now ∧
    (State.workOutAdvance n s v).order = s.order ∧ (State.workOutAdvance n s v).pending = s.pending := by
  unfold State.workOutAdvance
  simp

@[simp] theorem State.workOutAdvances_frame (s : State) (n : Nat) :
    (s.workOutAdvances n).belt = s.belt ∧ (s.workOutAdvances n).lanes = s.lanes ∧ (s.workOutAdvances n).table =
    s.table ∧ (s.workOutAdvances n).drive = s.drive ∧ (s.workOutAdvances n).rail = s.rail ∧ (s.workOutAdvances
    n).ctrl = s.ctrl ∧ (s.workOutAdvances n).link = s.link ∧ (s.workOutAdvances n).pins = s.pins ∧
    (s.workOutAdvances n).now = s.now ∧ (s.workOutAdvances n).order = s.order ∧ (s.workOutAdvances n).pending =
    s.pending := by
  have h := foldl_same (f := State.workOutAdvance n) (g := fun t : State => (t.belt, t.lanes, t.table, t.drive, t.rail, t.ctrl, t.link, t.pins, t.now, t.order, t.pending)) (fun t x => by simp)
  simp only [Prod.mk.injEq] at h
  unfold State.workOutAdvances
  (try dsimp only)
  (repeat' split) <;> simp [h]

/-! ### Valves -/

@[simp] theorem State.releaseValve_frame (s : State) (v : Fin 16) :
    (s.releaseValve v).belt = s.belt ∧ (s.releaseValve v).lanes = s.lanes ∧ (s.releaseValve v).table = s.table ∧
    (s.releaseValve v).sched = s.sched ∧ (s.releaseValve v).rail = s.rail ∧ (s.releaseValve v).ctrl = s.ctrl ∧
    (s.releaseValve v).link = s.link ∧ (s.releaseValve v).pins = s.pins ∧ (s.releaseValve v).now = s.now ∧
    (s.releaseValve v).order = s.order ∧ (s.releaseValve v).pending = s.pending := by
  unfold State.releaseValve
  simp

@[simp] theorem State.startOpening_frame (s : State) (v : Fin 16) :
    (s.startOpening v).belt = s.belt ∧ (s.startOpening v).lanes = s.lanes ∧ (s.startOpening v).table = s.table ∧
    (s.startOpening v).sched = s.sched ∧ (s.startOpening v).rail = s.rail ∧ (s.startOpening v).ctrl = s.ctrl ∧
    (s.startOpening v).link = s.link ∧ (s.startOpening v).pins = s.pins ∧ (s.startOpening v).now = s.now ∧
    (s.startOpening v).order = s.order ∧ (s.startOpening v).pending = s.pending := by
  unfold State.startOpening
  (try dsimp only)
  (repeat' split) <;> simp

@[simp] theorem State.motionCut_frame (s : State) (v : Fin 16) :
    (s.motionCut v).belt = s.belt ∧ (s.motionCut v).lanes = s.lanes ∧ (s.motionCut v).rail = s.rail ∧ (s.motionCut
    v).ctrl = s.ctrl ∧ (s.motionCut v).link = s.link ∧ (s.motionCut v).pins = s.pins ∧ (s.motionCut v).now = s.now ∧
    (s.motionCut v).order = s.order ∧ (s.motionCut v).pending = s.pending := by
  unfold State.motionCut
  (try dsimp only)
  (repeat' split) <;> simp

@[simp] theorem State.railCut_frame (s : State) (v : Fin 16) :
    (s.railCut v).belt = s.belt ∧ (s.railCut v).lanes = s.lanes ∧ (s.railCut v).rail = s.rail ∧ (s.railCut v).ctrl =
    s.ctrl ∧ (s.railCut v).link = s.link ∧ (s.railCut v).pins = s.pins ∧ (s.railCut v).now = s.now ∧ (s.railCut
    v).order = s.order ∧ (s.railCut v).pending = s.pending := by
  unfold State.railCut
  (try dsimp only)
  (repeat' split) <;> simp

@[simp] theorem State.lineCut_frame (s : State) (v : Fin 16) :
    (s.lineCut v).belt = s.belt ∧ (s.lineCut v).lanes = s.lanes ∧ (s.lineCut v).table = s.table ∧ (s.lineCut
    v).sched = s.sched ∧ (s.lineCut v).rail = s.rail ∧ (s.lineCut v).ctrl = s.ctrl ∧ (s.lineCut v).link = s.link ∧
    (s.lineCut v).pins = s.pins ∧ (s.lineCut v).now = s.now ∧ (s.lineCut v).order = s.order ∧ (s.lineCut v).pending
    = s.pending := by
  unfold State.lineCut
  (try dsimp only)
  (repeat' split) <;> simp

@[simp] theorem State.pullInExpiry_frame (s : State) (v : Fin 16) :
    (s.pullInExpiry v).belt = s.belt ∧ (s.pullInExpiry v).lanes = s.lanes ∧ (s.pullInExpiry v).table = s.table ∧
    (s.pullInExpiry v).sched = s.sched ∧ (s.pullInExpiry v).rail = s.rail ∧ (s.pullInExpiry v).ctrl = s.ctrl ∧
    (s.pullInExpiry v).link = s.link ∧ (s.pullInExpiry v).pins = s.pins ∧ (s.pullInExpiry v).now = s.now ∧
    (s.pullInExpiry v).order = s.order ∧ (s.pullInExpiry v).pending = s.pending := by
  unfold State.pullInExpiry
  (try dsimp only)
  (repeat' split) <;> simp

@[simp] theorem State.overtimeOf_frame (s : State) (v : Fin 16) :
    (s.overtimeOf v).belt = s.belt ∧ (s.overtimeOf v).lanes = s.lanes ∧ (s.overtimeOf v).rail = s.rail ∧
    (s.overtimeOf v).pins = s.pins ∧ (s.overtimeOf v).now = s.now ∧ (s.overtimeOf v).pending = s.pending := by
  unfold State.overtimeOf
  (try dsimp only)
  (repeat' split) <;> simp

@[simp] theorem State.testEndOf_frame (s : State) (v : Fin 16) :
    (s.testEndOf v).belt = s.belt ∧ (s.testEndOf v).lanes = s.lanes ∧ (s.testEndOf v).table = s.table ∧ (s.testEndOf
    v).sched = s.sched ∧ (s.testEndOf v).rail = s.rail ∧ (s.testEndOf v).ctrl = s.ctrl ∧ (s.testEndOf v).link =
    s.link ∧ (s.testEndOf v).pins = s.pins ∧ (s.testEndOf v).now = s.now ∧ (s.testEndOf v).order = s.order ∧
    (s.testEndOf v).pending = s.pending := by
  unfold State.testEndOf
  (try dsimp only)
  (repeat' split) <;> simp

@[simp] theorem State.takePending_frame (s : State) (v : Fin 16) :
    (s.takePending v).belt = s.belt ∧ (s.takePending v).lanes = s.lanes ∧ (s.takePending v).table = s.table ∧
    (s.takePending v).sched = s.sched ∧ (s.takePending v).rail = s.rail ∧ (s.takePending v).ctrl = s.ctrl ∧
    (s.takePending v).link = s.link ∧ (s.takePending v).pins = s.pins ∧ (s.takePending v).now = s.now ∧
    (s.takePending v).order = s.order ∧ (s.takePending v).pending = s.pending := by
  unfold State.takePending
  simp

@[simp] theorem State.refreshHold_frame (s : State) (v : Fin 16) :
    (s.refreshHold v).belt = s.belt ∧ (s.refreshHold v).lanes = s.lanes ∧ (s.refreshHold v).table = s.table ∧
    (s.refreshHold v).sched = s.sched ∧ (s.refreshHold v).rail = s.rail ∧ (s.refreshHold v).ctrl = s.ctrl ∧
    (s.refreshHold v).link = s.link ∧ (s.refreshHold v).pins = s.pins ∧ (s.refreshHold v).now = s.now ∧
    (s.refreshHold v).order = s.order ∧ (s.refreshHold v).pending = s.pending := by
  unfold State.refreshHold
  (try dsimp only)
  (repeat' split) <;> simp

@[simp] theorem State.periodStart_frame (s : State) (v : Fin 16) :
    (s.periodStart v).belt = s.belt ∧ (s.periodStart v).lanes = s.lanes ∧ (s.periodStart v).table = s.table ∧
    (s.periodStart v).sched = s.sched ∧ (s.periodStart v).rail = s.rail ∧ (s.periodStart v).ctrl = s.ctrl ∧
    (s.periodStart v).link = s.link ∧ (s.periodStart v).pins = s.pins ∧ (s.periodStart v).now = s.now ∧
    (s.periodStart v).order = s.order ∧ (s.periodStart v).pending = s.pending := by
  unfold State.periodStart
  simp

@[simp] theorem State.onTimeEnd_frame (s : State) (v : Fin 16) :
    (s.onTimeEnd v).belt = s.belt ∧ (s.onTimeEnd v).lanes = s.lanes ∧ (s.onTimeEnd v).table = s.table ∧ (s.onTimeEnd
    v).sched = s.sched ∧ (s.onTimeEnd v).rail = s.rail ∧ (s.onTimeEnd v).ctrl = s.ctrl ∧ (s.onTimeEnd v).link =
    s.link ∧ (s.onTimeEnd v).pins = s.pins ∧ (s.onTimeEnd v).now = s.now ∧ (s.onTimeEnd v).order = s.order ∧
    (s.onTimeEnd v).pending = s.pending := by
  unfold State.onTimeEnd
  (try dsimp only)
  (repeat' split) <;> simp

@[simp] theorem State.restartValve_frame (s : State) (v : Fin 16) :
    (s.restartValve v).belt = s.belt ∧ (s.restartValve v).lanes = s.lanes ∧ (s.restartValve v).table = s.table ∧
    (s.restartValve v).sched = s.sched ∧ (s.restartValve v).rail = s.rail ∧ (s.restartValve v).ctrl = s.ctrl ∧
    (s.restartValve v).link = s.link ∧ (s.restartValve v).pins = s.pins ∧ (s.restartValve v).now = s.now ∧
    (s.restartValve v).order = s.order ∧ (s.restartValve v).pending = s.pending := by
  unfold State.restartValve
  (try dsimp only)
  (repeat' split) <;> simp

@[simp] theorem State.restartPwm_frame (s : State) (p : Nat) :
    (s.restartPwm p).belt = s.belt ∧ (s.restartPwm p).lanes = s.lanes ∧ (s.restartPwm p).table = s.table ∧
    (s.restartPwm p).sched = s.sched ∧ (s.restartPwm p).rail = s.rail ∧ (s.restartPwm p).ctrl = s.ctrl ∧
    (s.restartPwm p).link = s.link ∧ (s.restartPwm p).pins = s.pins ∧ (s.restartPwm p).now = s.now ∧ (s.restartPwm
    p).order = s.order ∧ (s.restartPwm p).pending = s.pending := by
  have h := foldl_same (f := State.restartValve) (g := fun t : State => (t.belt, t.lanes, t.table, t.sched, t.rail, t.ctrl, t.link, t.pins, t.now, t.order, t.pending)) (fun t x => by simp)
  simp only [Prod.mk.injEq] at h
  unfold State.restartPwm
  (try dsimp only)
  (repeat' split) <;> simp [h]

@[simp] theorem State.disableValve_frame (s : State) (v : Fin 16) :
    (s.disableValve v).belt = s.belt ∧ (s.disableValve v).lanes = s.lanes ∧ (s.disableValve v).rail = s.rail ∧
    (s.disableValve v).ctrl = s.ctrl ∧ (s.disableValve v).link = s.link ∧ (s.disableValve v).pins = s.pins ∧
    (s.disableValve v).now = s.now ∧ (s.disableValve v).order = s.order ∧ (s.disableValve v).pending = s.pending := by
  unfold State.disableValve
  (try dsimp only)
  (repeat' split) <;> simp

@[simp] theorem State.enableValve_frame (s : State) (v : Fin 16) :
    (s.enableValve v).belt = s.belt ∧ (s.enableValve v).lanes = s.lanes ∧ (s.enableValve v).table = s.table ∧
    (s.enableValve v).sched = s.sched ∧ (s.enableValve v).rail = s.rail ∧ (s.enableValve v).ctrl = s.ctrl ∧
    (s.enableValve v).link = s.link ∧ (s.enableValve v).pins = s.pins ∧ (s.enableValve v).now = s.now ∧
    (s.enableValve v).order = s.order ∧ (s.enableValve v).pending = s.pending := by
  unfold State.enableValve
  (try dsimp only)
  (repeat' split) <;> simp

@[simp] theorem State.startTest_frame (s : State) (v : Fin 16) (d : Nat) :
    (s.startTest v d).belt = s.belt ∧ (s.startTest v d).lanes = s.lanes ∧ (s.startTest v d).table = s.table ∧
    (s.startTest v d).sched = s.sched ∧ (s.startTest v d).rail = s.rail ∧ (s.startTest v d).ctrl = s.ctrl ∧
    (s.startTest v d).link = s.link ∧ (s.startTest v d).pins = s.pins ∧ (s.startTest v d).now = s.now ∧ (s.startTest
    v d).order = s.order ∧ (s.startTest v d).pending = s.pending := by
  unfold State.startTest
  (try dsimp only)
  (repeat' split) <;> simp

@[simp] theorem State.applyValve_frame (s : State) (v : Fin 16) (p : ValveParams) :
    (s.applyValve v p).belt = s.belt ∧ (s.applyValve v p).lanes = s.lanes ∧ (s.applyValve v p).table = s.table ∧
    (s.applyValve v p).sched = s.sched ∧ (s.applyValve v p).rail = s.rail ∧ (s.applyValve v p).ctrl = s.ctrl ∧
    (s.applyValve v p).link = s.link ∧ (s.applyValve v p).pins = s.pins ∧ (s.applyValve v p).now = s.now ∧
    (s.applyValve v p).order = s.order ∧ (s.applyValve v p).pending = s.pending := by
  unfold State.applyValve
  simp

@[simp] theorem State.examineQueue_frame (p : Pos) (v : Fin 16) : ∀ (q : List Action) (s : State),
    (State.examineQueue p v q s).belt = s.belt ∧ (State.examineQueue p v q s).lanes = s.lanes ∧ (State.examineQueue
    p v q s).rail = s.rail ∧ (State.examineQueue p v q s).ctrl = s.ctrl ∧ (State.examineQueue p v q s).link = s.link
    ∧ (State.examineQueue p v q s).pins = s.pins ∧ (State.examineQueue p v q s).now = s.now ∧ (State.examineQueue p
    v q s).order = s.order ∧ (State.examineQueue p v q s).pending = s.pending
  | [], s => by unfold State.examineQueue; simp
  | a :: as, s => by
    unfold State.examineQueue
    (repeat' split) <;> simp [State.examineQueue_frame p v as]

@[simp] theorem State.examineValve_frame (s : State) (p : Pos) (v : Fin 16) :
    (State.examineValve p s v).belt = s.belt ∧ (State.examineValve p s v).lanes = s.lanes ∧ (State.examineValve p s
    v).rail = s.rail ∧ (State.examineValve p s v).ctrl = s.ctrl ∧ (State.examineValve p s v).link = s.link ∧
    (State.examineValve p s v).pins = s.pins ∧ (State.examineValve p s v).now = s.now ∧ (State.examineValve p s
    v).order = s.order ∧ (State.examineValve p s v).pending = s.pending := by
  unfold State.examineValve
  simp

/-! ### Tracking -/

@[simp] theorem State.discard_frame (s : State) (tag : Nat) (why : DiscardReason) :
    (s.discard tag why).belt = s.belt ∧ (s.discard tag why).lanes = s.lanes ∧ (s.discard tag why).sched = s.sched ∧
    (s.discard tag why).drive = s.drive ∧ (s.discard tag why).rail = s.rail ∧ (s.discard tag why).pins = s.pins ∧
    (s.discard tag why).now = s.now ∧ (s.discard tag why).pending = s.pending := by
  unfold State.discard
  (try dsimp only)
  (repeat' split) <;> simp

@[simp] theorem State.setDefaulted_frame (s : State) (tag : Nat) (c : Closing) (ps : List Placed) (o : TargetOutcome) :
    (s.setDefaulted tag c ps o).belt = s.belt ∧ (s.setDefaulted tag c ps o).lanes = s.lanes ∧ (s.setDefaulted tag c
    ps o).sched = s.sched ∧ (s.setDefaulted tag c ps o).drive = s.drive ∧ (s.setDefaulted tag c ps o).rail = s.rail
    ∧ (s.setDefaulted tag c ps o).ctrl = s.ctrl ∧ (s.setDefaulted tag c ps o).link = s.link ∧ (s.setDefaulted tag c
    ps o).pins = s.pins ∧ (s.setDefaulted tag c ps o).now = s.now ∧ (s.setDefaulted tag c ps o).order = s.order ∧
    (s.setDefaulted tag c ps o).pending = s.pending := by
  unfold State.setDefaulted
  simp

@[simp] theorem State.defaultFailed_frame (s : State) (tag : Nat) (c : Closing) (ps : List Placed) (full : Bool) :
    (s.defaultFailed tag c ps full).belt = s.belt ∧ (s.defaultFailed tag c ps full).lanes = s.lanes ∧
    (s.defaultFailed tag c ps full).sched = s.sched ∧ (s.defaultFailed tag c ps full).drive = s.drive ∧
    (s.defaultFailed tag c ps full).rail = s.rail ∧ (s.defaultFailed tag c ps full).pins = s.pins ∧ (s.defaultFailed
    tag c ps full).now = s.now ∧ (s.defaultFailed tag c ps full).pending = s.pending := by
  unfold State.defaultFailed
  (try dsimp only)
  (repeat' split) <;> simp

@[simp] theorem State.applyDefault_frame (s : State) (r : ItemRecord) (c : Closing) :
    (s.applyDefault r c).belt = s.belt ∧ (s.applyDefault r c).lanes = s.lanes ∧ (s.applyDefault r c).drive = s.drive
    ∧ (s.applyDefault r c).rail = s.rail ∧ (s.applyDefault r c).pins = s.pins ∧ (s.applyDefault r c).now = s.now ∧
    (s.applyDefault r c).pending = s.pending := by
  unfold State.applyDefault
  (try dsimp only)
  (repeat' split) <;> simp

@[simp] theorem State.closeItem_frame (s : State) (tag : Nat) (p : Pos) (n m : Nat) (b e : Bool) :
    (s.closeItem tag p n m b e).belt = s.belt ∧ (s.closeItem tag p n m b e).lanes = s.lanes ∧ (s.closeItem tag p n m
    b e).drive = s.drive ∧ (s.closeItem tag p n m b e).rail = s.rail ∧ (s.closeItem tag p n m b e).pins = s.pins ∧
    (s.closeItem tag p n m b e).now = s.now ∧ (s.closeItem tag p n m b e).pending = s.pending := by
  unfold State.closeItem
  (try dsimp only)
  (repeat' split) <;> simp

@[simp] theorem State.retire_frame (s : State) (tag : Nat) :
    (s.retire tag).belt = s.belt ∧ (s.retire tag).lanes = s.lanes ∧ (s.retire tag).drive = s.drive ∧ (s.retire
    tag).rail = s.rail ∧ (s.retire tag).pins = s.pins ∧ (s.retire tag).now = s.now ∧ (s.retire tag).pending =
    s.pending := by
  unfold State.retire
  (try dsimp only)
  (repeat' split) <;> simp

@[simp] theorem State.checkRecord_frame (s : State) (p : Pos) (tag : Nat) :
    (State.checkRecord p s tag).belt = s.belt ∧ (State.checkRecord p s tag).lanes = s.lanes ∧ (State.checkRecord p s
    tag).drive = s.drive ∧ (State.checkRecord p s tag).rail = s.rail ∧ (State.checkRecord p s tag).pins = s.pins ∧
    (State.checkRecord p s tag).now = s.now ∧ (State.checkRecord p s tag).pending = s.pending := by
  unfold State.checkRecord
  (try dsimp only)
  (repeat' split) <;> simp

@[simp] theorem State.tableUpdate_frame (s : State) (u : Update) :
    (State.tableUpdate u s).belt = s.belt ∧ (State.tableUpdate u s).lanes = s.lanes ∧ (State.tableUpdate u s).drive
    = s.drive ∧ (State.tableUpdate u s).rail = s.rail ∧ (State.tableUpdate u s).pins = s.pins ∧ (State.tableUpdate u
    s).now = s.now ∧ (State.tableUpdate u s).pending = s.pending := by
  have h := foldl_same (f := State.checkRecord u.position) (g := fun t : State => (t.belt, t.lanes, t.drive, t.rail, t.pins, t.now, t.pending)) (fun t x => by simp)
  simp only [Prod.mk.injEq] at h
  unfold State.tableUpdate
  (try dsimp only)
  (repeat' split) <;> simp [h]

@[simp] theorem State.scheduleUpdate_frame (s : State) (u : Update) :
    (State.scheduleUpdate u s).belt = s.belt ∧ (State.scheduleUpdate u s).lanes = s.lanes ∧ (State.scheduleUpdate u
    s).table = s.table ∧ (State.scheduleUpdate u s).drive = s.drive ∧ (State.scheduleUpdate u s).rail = s.rail ∧
    (State.scheduleUpdate u s).ctrl = s.ctrl ∧ (State.scheduleUpdate u s).link = s.link ∧ (State.scheduleUpdate u
    s).pins = s.pins ∧ (State.scheduleUpdate u s).now = s.now ∧ (State.scheduleUpdate u s).order = s.order ∧
    (State.scheduleUpdate u s).pending = s.pending := by
  unfold State.scheduleUpdate
  simp

@[simp] theorem State.driveUpdate_frame (s : State) (u : Update) :
    (State.driveUpdate u s).belt = s.belt ∧ (State.driveUpdate u s).lanes = s.lanes ∧ (State.driveUpdate u s).rail =
    s.rail ∧ (State.driveUpdate u s).ctrl = s.ctrl ∧ (State.driveUpdate u s).link = s.link ∧ (State.driveUpdate u
    s).pins = s.pins ∧ (State.driveUpdate u s).now = s.now ∧ (State.driveUpdate u s).order = s.order ∧
    (State.driveUpdate u s).pending = s.pending := by
  have h := foldl_same (f := State.examineValve u.position) (g := fun t : State => (t.belt, t.lanes, t.rail, t.ctrl, t.link, t.pins, t.now, t.order, t.pending)) (fun t x => by simp)
  simp only [Prod.mk.injEq] at h
  unfold State.driveUpdate
  (try dsimp only)
  (repeat' split) <;> simp [h]

/-! ### Who goes first -/

@[simp] theorem State.settle_frame {α : Type} (s : State) (xs : List α) :
    ((s.settle xs).2).belt = s.belt ∧ ((s.settle xs).2).lanes = s.lanes ∧ ((s.settle xs).2).table = s.table ∧
    ((s.settle xs).2).sched = s.sched ∧ ((s.settle xs).2).drive = s.drive ∧ ((s.settle xs).2).rail = s.rail ∧
    ((s.settle xs).2).ctrl = s.ctrl ∧ ((s.settle xs).2).link = s.link ∧ ((s.settle xs).2).pins = s.pins ∧ ((s.settle
    xs).2).now = s.now ∧ ((s.settle xs).2).pending = s.pending := by
  obtain ⟨o, e⟩ := s.settle_snd xs
  simp [e]

@[simp] theorem State.choose_frame (s : State) (n : Nat) :
    ((s.choose n).2).belt = s.belt ∧ ((s.choose n).2).lanes = s.lanes ∧ ((s.choose n).2).table = s.table ∧
    ((s.choose n).2).sched = s.sched ∧ ((s.choose n).2).drive = s.drive ∧ ((s.choose n).2).rail = s.rail ∧
    ((s.choose n).2).ctrl = s.ctrl ∧ ((s.choose n).2).link = s.link ∧ ((s.choose n).2).pins = s.pins ∧ ((s.choose
    n).2).now = s.now ∧ ((s.choose n).2).pending = s.pending := by
  obtain ⟨o, e⟩ := s.choose_snd n
  simp [e]

/-! ### Lanes -/

@[simp] theorem State.askRecord_frame (s : State) (l : Fin 8) (c : Candidate) :
    (s.askRecord l c).belt = s.belt ∧ (s.askRecord l c).sched = s.sched ∧ (s.askRecord l c).drive = s.drive ∧
    (s.askRecord l c).rail = s.rail ∧ (s.askRecord l c).pins = s.pins ∧ (s.askRecord l c).now = s.now ∧ (s.askRecord
    l c).pending = s.pending := by
  unfold State.askRecord
  (try dsimp only)
  (repeat' split) <;> simp

@[simp] theorem State.closeByEdge_frame (s : State) (l : Fin 8) (o : OpenCapture) (c : Candidate) :
    (s.closeByEdge l o c).belt = s.belt ∧ (s.closeByEdge l o c).drive = s.drive ∧ (s.closeByEdge l o c).rail =
    s.rail ∧ (s.closeByEdge l o c).pins = s.pins ∧ (s.closeByEdge l o c).now = s.now ∧ (s.closeByEdge l o c).pending
    = s.pending := by
  unfold State.closeByEdge
  (try dsimp only)
  (repeat' split) <;> simp

@[simp] theorem State.closeByLength_frame (s : State) (u : Update) (l : Fin 8) :
    (State.closeByLength u s l).belt = s.belt ∧ (State.closeByLength u s l).drive = s.drive ∧ (State.closeByLength u
    s l).rail = s.rail ∧ (State.closeByLength u s l).pins = s.pins ∧ (State.closeByLength u s l).now = s.now ∧
    (State.closeByLength u s l).pending = s.pending := by
  unfold State.closeByLength
  (try dsimp only)
  (repeat' split) <;> simp

@[simp] theorem State.lanesUpdate_frame (s : State) (u : Update) :
    (State.lanesUpdate u s).belt = s.belt ∧ (State.lanesUpdate u s).drive = s.drive ∧ (State.lanesUpdate u s).rail =
    s.rail ∧ (State.lanesUpdate u s).pins = s.pins ∧ (State.lanesUpdate u s).now = s.now ∧ (State.lanesUpdate u
    s).pending = s.pending := by
  have h := foldl_same (f := State.closeByLength u) (g := fun t : State => (t.belt, t.drive, t.rail, t.pins, t.now, t.pending)) (fun t x => by simp)
  simp only [Prod.mk.injEq] at h
  unfold State.lanesUpdate
  (try dsimp only)
  (repeat' split) <;> simp [h]

@[simp] theorem State.abandonByReversal_frame (s : State) (l : Fin 8) :
    (s.abandonByReversal l).belt = s.belt ∧ (s.abandonByReversal l).sched = s.sched ∧ (s.abandonByReversal l).drive
    = s.drive ∧ (s.abandonByReversal l).rail = s.rail ∧ (s.abandonByReversal l).pins = s.pins ∧ (s.abandonByReversal
    l).now = s.now ∧ (s.abandonByReversal l).pending = s.pending := by
  unfold State.abandonByReversal
  (try dsimp only)
  (repeat' split) <;> simp

@[simp] theorem State.confirmEdge_frame (s : State) (l : Fin 8) (c : Candidate) :
    (s.confirmEdge l c).belt = s.belt ∧ (s.confirmEdge l c).drive = s.drive ∧ (s.confirmEdge l c).rail = s.rail ∧
    (s.confirmEdge l c).pins = s.pins ∧ (s.confirmEdge l c).now = s.now ∧ (s.confirmEdge l c).pending = s.pending := by
  unfold State.confirmEdge
  (try dsimp only)
  (repeat' split) <;> simp

@[simp] theorem State.debounce_frame (s : State) (l : Fin 8) :
    (s.debounce l).belt = s.belt ∧ (s.debounce l).drive = s.drive ∧ (s.debounce l).rail = s.rail ∧ (s.debounce
    l).pins = s.pins ∧ (s.debounce l).now = s.now ∧ (s.debounce l).pending = s.pending := by
  unfold State.debounce
  (try dsimp only)
  (repeat' split) <;> simp

@[simp] theorem State.sampleEye_frame (s : State) (l : Fin 8) (x : Level) :
    (s.sampleEye l x).belt = s.belt ∧ (s.sampleEye l x).drive = s.drive ∧ (s.sampleEye l x).rail = s.rail ∧
    (s.sampleEye l x).pins = s.pins ∧ (s.sampleEye l x).now = s.now ∧ (s.sampleEye l x).pending = s.pending := by
  unfold State.sampleEye
  (try dsimp only)
  (repeat' split) <;> simp

@[simp] theorem State.activateLane_frame (s : State) (l : Fin 8) :
    (s.activateLane l).belt = s.belt ∧ (s.activateLane l).table = s.table ∧ (s.activateLane l).sched = s.sched ∧
    (s.activateLane l).drive = s.drive ∧ (s.activateLane l).rail = s.rail ∧ (s.activateLane l).ctrl = s.ctrl ∧
    (s.activateLane l).link = s.link ∧ (s.activateLane l).pins = s.pins ∧ (s.activateLane l).now = s.now ∧
    (s.activateLane l).order = s.order ∧ (s.activateLane l).pending = s.pending := by
  unfold State.activateLane
  simp

@[simp] theorem State.activateIfEnabled_frame (s : State) (l : Fin 8) :
    (s.activateIfEnabled l).belt = s.belt ∧ (s.activateIfEnabled l).table = s.table ∧ (s.activateIfEnabled l).sched
    = s.sched ∧ (s.activateIfEnabled l).drive = s.drive ∧ (s.activateIfEnabled l).rail = s.rail ∧
    (s.activateIfEnabled l).ctrl = s.ctrl ∧ (s.activateIfEnabled l).link = s.link ∧ (s.activateIfEnabled l).pins =
    s.pins ∧ (s.activateIfEnabled l).now = s.now ∧ (s.activateIfEnabled l).order = s.order ∧ (s.activateIfEnabled
    l).pending = s.pending := by
  unfold State.activateIfEnabled
  (try dsimp only)
  (repeat' split) <;> simp

@[simp] theorem State.lanesOff_frame (s : State) :
    (s.lanesOff).belt = s.belt ∧ (s.lanesOff).table = s.table ∧ (s.lanesOff).sched = s.sched ∧ (s.lanesOff).drive =
    s.drive ∧ (s.lanesOff).rail = s.rail ∧ (s.lanesOff).ctrl = s.ctrl ∧ (s.lanesOff).link = s.link ∧
    (s.lanesOff).pins = s.pins ∧ (s.lanesOff).now = s.now ∧ (s.lanesOff).order = s.order ∧ (s.lanesOff).pending =
    s.pending := by
  have h := foldl_same (f := fun (s : State) (l : Fin 8) => s.putLaneState l .off) (g := fun t : State => (t.belt, t.table, t.sched, t.drive, t.rail, t.ctrl, t.link, t.pins, t.now, t.order, t.pending)) (fun t x => by simp)
  simp only [Prod.mk.injEq] at h
  unfold State.lanesOff
  (try dsimp only)
  (repeat' split) <;> simp [h]

@[simp] theorem State.abandonByLane_frame (s : State) (l : Fin 8) :
    (s.abandonByLane l).belt = s.belt ∧ (s.abandonByLane l).sched = s.sched ∧ (s.abandonByLane l).drive = s.drive ∧
    (s.abandonByLane l).rail = s.rail ∧ (s.abandonByLane l).pins = s.pins ∧ (s.abandonByLane l).now = s.now ∧
    (s.abandonByLane l).pending = s.pending := by
  unfold State.abandonByLane
  (try dsimp only)
  (repeat' split) <;> simp

@[simp] theorem State.applyLane_frame (s : State) (l : Fin 8) (p : LaneParams) :
    (s.applyLane l p).belt = s.belt ∧ (s.applyLane l p).sched = s.sched ∧ (s.applyLane l p).drive = s.drive ∧
    (s.applyLane l p).rail = s.rail ∧ (s.applyLane l p).pins = s.pins ∧ (s.applyLane l p).now = s.now ∧ (s.applyLane
    l p).pending = s.pending := by
  unfold State.applyLane
  (try dsimp only)
  (repeat' split) <;> simp

/-! ### The line -/

@[simp] theorem State.leaveArmed_frame (s : State) :
    (s.leaveArmed).belt = s.belt ∧ (s.leaveArmed).rail = s.rail ∧ (s.leaveArmed).ctrl = s.ctrl ∧ (s.leaveArmed).link
    = s.link ∧ (s.leaveArmed).pins = s.pins ∧ (s.leaveArmed).now = s.now ∧ (s.leaveArmed).order = s.order ∧
    (s.leaveArmed).pending = s.pending := by
  have h := foldl_same (f := State.lineCut) (g := fun t : State => (t.belt, t.rail, t.ctrl, t.link, t.pins, t.now, t.order, t.pending)) (fun t x => by simp)
  simp only [Prod.mk.injEq] at h
  unfold State.leaveArmed
  (try dsimp only)
  (repeat' split) <;> simp [h]

@[simp] theorem State.halt_frame (s : State) (c : HaltCause) :
    (s.halt c).belt = s.belt ∧ (s.halt c).rail = s.rail ∧ (s.halt c).pins = s.pins ∧ (s.halt c).now = s.now ∧
    (s.halt c).pending = s.pending := by
  unfold State.halt
  (try dsimp only)
  (repeat' split) <;> simp

@[simp] theorem State.takeLost_frame (s : State) (c : LostCause) :
    (s.takeLost c).belt = s.belt ∧ (s.takeLost c).rail = s.rail ∧ (s.takeLost c).pins = s.pins ∧ (s.takeLost c).now
    = s.now ∧ (s.takeLost c).pending = s.pending := by
  unfold State.takeLost
  (try dsimp only)
  (repeat' split) <;> simp

@[simp] theorem State.takeSilence_frame (s : State) :
    (s.takeSilence).belt = s.belt ∧ (s.takeSilence).rail = s.rail ∧ (s.takeSilence).pins = s.pins ∧
    (s.takeSilence).now = s.now ∧ (s.takeSilence).pending = s.pending := by
  unfold State.takeSilence
  simp

@[simp] theorem State.handSource_frame (s : State) :
    (s.handSource).belt = s.belt ∧ (s.handSource).table = s.table ∧ (s.handSource).sched = s.sched ∧
    (s.handSource).drive = s.drive ∧ (s.handSource).rail = s.rail ∧ (s.handSource).pins = s.pins ∧
    (s.handSource).now = s.now ∧ (s.handSource).pending = s.pending := by
  unfold State.handSource
  simp

@[simp] theorem State.handLost_frame (s : State) (c : LostCause) :
    (s.handLost c).belt = s.belt ∧ (s.handLost c).rail = s.rail ∧ (s.handLost c).pins = s.pins ∧ (s.handLost c).now
    = s.now ∧ (s.handLost c).pending = s.pending := by
  unfold State.handLost
  simp

@[simp] theorem State.handLostAndSilence_frame (s : State) (c : LostCause) :
    (s.handLostAndSilence c).belt = s.belt ∧ (s.handLostAndSilence c).rail = s.rail ∧ (s.handLostAndSilence c).pins
    = s.pins ∧ (s.handLostAndSilence c).now = s.now ∧ (s.handLostAndSilence c).pending = s.pending := by
  unfold State.handLostAndSilence
  (try dsimp only)
  (repeat' split) <;> simp

@[simp] theorem State.lanesMotion_frame (s : State) (m : Motion) :
    (s.lanesMotion m).belt = s.belt ∧ (s.lanesMotion m).sched = s.sched ∧ (s.lanesMotion m).drive = s.drive ∧
    (s.lanesMotion m).rail = s.rail ∧ (s.lanesMotion m).pins = s.pins ∧ (s.lanesMotion m).now = s.now ∧
    (s.lanesMotion m).pending = s.pending := by
  have h := foldl_same (f := State.abandonByReversal) (g := fun t : State => (t.belt, t.sched, t.drive, t.rail, t.pins, t.now, t.pending)) (fun t x => by simp)
  simp only [Prod.mk.injEq] at h
  unfold State.lanesMotion
  (try dsimp only)
  (repeat' split) <;> simp [h]

@[simp] theorem State.driveMotion_frame (s : State) (a b : Motion) :
    (s.driveMotion a b).belt = s.belt ∧ (s.driveMotion a b).lanes = s.lanes ∧ (s.driveMotion a b).rail = s.rail ∧
    (s.driveMotion a b).ctrl = s.ctrl ∧ (s.driveMotion a b).link = s.link ∧ (s.driveMotion a b).pins = s.pins ∧
    (s.driveMotion a b).now = s.now ∧ (s.driveMotion a b).order = s.order ∧ (s.driveMotion a b).pending = s.pending := by
  have h := foldl_same (f := State.motionCut) (g := fun t : State => (t.belt, t.lanes, t.rail, t.ctrl, t.link, t.pins, t.now, t.order, t.pending)) (fun t x => by simp)
  simp only [Prod.mk.injEq] at h
  unfold State.driveMotion
  (try dsimp only)
  (repeat' split) <;> simp [h]

@[simp] theorem State.handMotion_frame (s : State) (a : Motion) :
    (s.handMotion a).belt = s.belt ∧ (s.handMotion a).rail = s.rail ∧ (s.handMotion a).pins = s.pins ∧ (s.handMotion
    a).now = s.now ∧ (s.handMotion a).pending = s.pending := by
  unfold State.handMotion
  (try dsimp only)
  (repeat' split) <;> simp

@[simp] theorem State.railFalls_frame (s : State) :
    (s.railFalls).belt = s.belt ∧ (s.railFalls).lanes = s.lanes ∧ (s.railFalls).pins = s.pins ∧ (s.railFalls).now =
    s.now ∧ (s.railFalls).pending = s.pending := by
  have h := foldl_same (f := State.railCut) (g := fun t : State => (t.belt, t.lanes, t.pins, t.now, t.pending)) (fun t x => by simp)
  simp only [Prod.mk.injEq] at h
  unfold State.railFalls
  (try dsimp only)
  (repeat' split) <;> simp [h]

@[simp] theorem State.railRises_frame (s : State) :
    (s.railRises).belt = s.belt ∧ (s.railRises).lanes = s.lanes ∧ (s.railRises).table = s.table ∧
    (s.railRises).sched = s.sched ∧ (s.railRises).pins = s.pins ∧ (s.railRises).now = s.now ∧ (s.railRises).pending
    = s.pending := by
  unfold State.railRises
  simp

@[simp] theorem State.armLine_frame (s : State) :
    (s.armLine).belt = s.belt ∧ (s.armLine).table = s.table ∧ (s.armLine).sched = s.sched ∧ (s.armLine).drive =
    s.drive ∧ (s.armLine).rail = s.rail ∧ (s.armLine).pins = s.pins ∧ (s.armLine).now = s.now ∧ (s.armLine).pending
    = s.pending := by
  have h := foldl_same (f := State.activateIfEnabled) (g := fun t : State => (t.belt, t.table, t.sched, t.drive, t.rail, t.pins, t.now, t.pending)) (fun t x => by simp)
  simp only [Prod.mk.injEq] at h
  unfold State.armLine
  (try dsimp only)
  (repeat' split) <;> simp [h]

@[simp] theorem State.disarmLine_frame (s : State) :
    (s.disarmLine).belt = s.belt ∧ (s.disarmLine).rail = s.rail ∧ (s.disarmLine).pins = s.pins ∧ (s.disarmLine).now
    = s.now ∧ (s.disarmLine).pending = s.pending := by
  unfold State.disarmLine
  simp

/-! ### The belt -/

@[simp] theorem State.handUpdate_frame (s : State) (k : UpdateKind) :
    (s.handUpdate k).belt = s.belt ∧ (s.handUpdate k).rail = s.rail ∧ (s.handUpdate k).pins = s.pins ∧ (s.handUpdate
    k).now = s.now ∧ (s.handUpdate k).pending = s.pending := by
  unfold State.handUpdate
  (try dsimp only)
  (repeat' split) <;> simp

@[simp] theorem State.handSourceFrom_frame (s : State) (k : SourceKind) :
    (s.handSourceFrom k).belt = s.belt ∧ (s.handSourceFrom k).table = s.table ∧ (s.handSourceFrom k).sched = s.sched
    ∧ (s.handSourceFrom k).drive = s.drive ∧ (s.handSourceFrom k).rail = s.rail ∧ (s.handSourceFrom k).pins = s.pins
    ∧ (s.handSourceFrom k).now = s.now ∧ (s.handSourceFrom k).pending = s.pending := by
  unfold State.handSourceFrom
  (try dsimp only)
  (repeat' split) <;> simp

@[simp] theorem State.countEncoder_frame (s : State) (d : Dir) :
    (s.countEncoder d).rail = s.rail ∧ (s.countEncoder d).pins = s.pins ∧ (s.countEncoder d).now = s.now ∧
    (s.countEncoder d).pending = s.pending := by
  unfold State.countEncoder
  simp

@[simp] theorem State.countGenerated_frame (s : State) (k : UpdateKind) :
    (s.countGenerated k).rail = s.rail ∧ (s.countGenerated k).pins = s.pins ∧ (s.countGenerated k).now = s.now ∧
    (s.countGenerated k).pending = s.pending := by
  unfold State.countGenerated
  simp

@[simp] theorem State.putReference_frame (s : State) (p : EncPair) :
    (s.putReference p).lanes = s.lanes ∧ (s.putReference p).table = s.table ∧ (s.putReference p).sched = s.sched ∧
    (s.putReference p).drive = s.drive ∧ (s.putReference p).rail = s.rail ∧ (s.putReference p).ctrl = s.ctrl ∧
    (s.putReference p).link = s.link ∧ (s.putReference p).now = s.now ∧ (s.putReference p).order = s.order ∧
    (s.putReference p).pending = s.pending := by
  unfold State.putReference
  simp

@[simp] theorem State.enterLost_frame (s : State) (c : LostCause) :
    (s.enterLost c).rail = s.rail ∧ (s.enterLost c).pins = s.pins ∧ (s.enterLost c).now = s.now ∧ (s.enterLost
    c).pending = s.pending := by
  unfold State.enterLost
  simp

@[simp] theorem State.stopExpiry_frame (s : State) :
    (s.stopExpiry).rail = s.rail ∧ (s.stopExpiry).pins = s.pins ∧ (s.stopExpiry).now = s.now ∧
    (s.stopExpiry).pending = s.pending := by
  unfold State.stopExpiry
  (try dsimp only)
  (repeat' split) <;> simp

@[simp] theorem State.lossExpiry_frame (s : State) :
    (s.lossExpiry).rail = s.rail ∧ (s.lossExpiry).pins = s.pins ∧ (s.lossExpiry).now = s.now ∧
    (s.lossExpiry).pending = s.pending := by
  unfold State.lossExpiry
  (try dsimp only)
  (repeat' split) <;> simp

@[simp] theorem State.limitExpiry_frame (s : State) :
    (s.limitExpiry).rail = s.rail ∧ (s.limitExpiry).pins = s.pins ∧ (s.limitExpiry).now = s.now ∧
    (s.limitExpiry).pending = s.pending := by
  unfold State.limitExpiry
  (try dsimp only)
  (repeat' split) <;> simp

@[simp] theorem State.gapFromLost_frame (s : State) :
    (s.gapFromLost).rail = s.rail ∧ (s.gapFromLost).pins = s.pins ∧ (s.gapFromLost).now = s.now ∧
    (s.gapFromLost).pending = s.pending := by
  unfold State.gapFromLost
  (try dsimp only)
  (repeat' split) <;> simp

@[simp] theorem State.gapExpiry_frame (s : State) :
    (s.gapExpiry).rail = s.rail ∧ (s.gapExpiry).pins = s.pins ∧ (s.gapExpiry).now = s.now ∧ (s.gapExpiry).pending =
    s.pending := by
  unfold State.gapExpiry
  (try dsimp only)
  (repeat' split) <;> simp

@[simp] theorem State.silenceExpiry_frame (s : State) :
    (s.silenceExpiry).rail = s.rail ∧ (s.silenceExpiry).pins = s.pins ∧ (s.silenceExpiry).now = s.now ∧
    (s.silenceExpiry).pending = s.pending := by
  unfold State.silenceExpiry
  (try dsimp only)
  (repeat' split) <;> simp

@[simp] theorem State.stepTimed_frame (s : State) :
    (s.stepTimed).rail = s.rail ∧ (s.stepTimed).pins = s.pins ∧ (s.stepTimed).now = s.now ∧ (s.stepTimed).pending =
    s.pending := by
  unfold State.stepTimed
  (try dsimp only)
  (repeat' split) <;> simp

@[simp] theorem State.stepEstimated_frame (s : State) :
    (s.stepEstimated).rail = s.rail ∧ (s.stepEstimated).pins = s.pins ∧ (s.stepEstimated).now = s.now ∧
    (s.stepEstimated).pending = s.pending := by
  unfold State.stepEstimated
  (try dsimp only)
  (repeat' split) <;> simp

@[simp] theorem State.syncRun_frame (s : State) :
    (s.syncRun).rail = s.rail ∧ (s.syncRun).pins = s.pins ∧ (s.syncRun).now = s.now ∧ (s.syncRun).pending =
    s.pending := by
  unfold State.syncRun
  (try dsimp only)
  (repeat' split) <;> simp

@[simp] theorem State.takeCount_frame (s : State) (d : Dir) :
    (s.takeCount d).rail = s.rail ∧ (s.takeCount d).pins = s.pins ∧ (s.takeCount d).now = s.now ∧ (s.takeCount
    d).pending = s.pending := by
  unfold State.takeCount
  (try dsimp only)
  (repeat' split) <;> simp

@[simp] theorem State.sampleEncoder_frame (s : State) (p : EncPair) :
    (s.sampleEncoder p).rail = s.rail ∧ (s.sampleEncoder p).now = s.now ∧ (s.sampleEncoder p).pending = s.pending := by
  unfold State.sampleEncoder
  (try dsimp only)
  (repeat' split) <;> simp

@[simp] theorem State.runFilterExpiry_frame (s : State) (x : Level) :
    (s.runFilterExpiry x).rail = s.rail ∧ (s.runFilterExpiry x).now = s.now ∧ (s.runFilterExpiry x).pending =
    s.pending := by
  unfold State.runFilterExpiry
  simp

/-! ### Counts within the loss time and later (R23, R24) -/

/-- A count within the loss time after the one before it is counted at once (R23). -/
theorem State.takeCount_inTime (s : State) (d : Dir) (h : s.belt.gapOver = false) :
    s.takeCount d = s.countEncoder d := by
  simp [State.takeCount, h]

/-- A later one finds the CONFIRMING failed (R24). -/
theorem State.takeCount_late (s : State) (d : Dir) (h : s.belt.gapOver = true) :
    s.takeCount d = s.gapExpiry.countEncoder d := by
  simp [State.takeCount, h]

/-- Every loss leaves the source LOST (R20, R22, R24). -/
@[simp] theorem State.enterLost_source (s : State) (cause : LostCause) : (s.enterLost cause).belt.source = .lost := by
  simp [State.enterLost, Belt.lose]

/-- A CONFIRMING that fails is ESTIMATE or LOST again (R24). -/
theorem State.gapExpiry_source (s : State) {c : Confirmation} (h : s.belt.source = .confirming c) :
    s.gapExpiry.belt.source = .estimate ∨ s.gapExpiry.belt.source = .lost := by
  unfold State.gapExpiry State.gapFromLost
  simp only [h]
  repeat' split
  all_goals simp [Belt.lose, Belt.estimateAgain]

/-! ### SET_LINE -/

@[simp] theorem LineEffect.fire_frame (s : State) (e : LineEffect) :
    (LineEffect.fire s e).rail = s.rail ∧ (LineEffect.fire s e).pins = s.pins ∧ (LineEffect.fire s e).now = s.now ∧
    (LineEffect.fire s e).pending = s.pending := by
  cases e <;> simp [LineEffect.fire]

@[simp] theorem LineEffect.fireIfDue_frame (s : State) (e : LineEffect) :
    (LineEffect.fireIfDue s e).rail = s.rail ∧ (LineEffect.fireIfDue s e).pins = s.pins ∧ (LineEffect.fireIfDue s
    e).now = s.now ∧ (LineEffect.fireIfDue s e).pending = s.pending := by
  unfold LineEffect.fireIfDue
  split <;> simp

@[simp] theorem State.lineSameMode_frame (s : State) (p : LineParams) :
    (s.lineSameMode p).rail = s.rail ∧ (s.lineSameMode p).pins = s.pins ∧ (s.lineSameMode p).now = s.now ∧
    (s.lineSameMode p).pending = s.pending := by
  have h := foldl_same (f := LineEffect.fireIfDue) (g := fun t : State => (t.rail, t.pins, t.now, t.pending)) (fun t x => by simp)
  simp only [Prod.mk.injEq] at h
  unfold State.lineSameMode
  (try dsimp only)
  (repeat' split) <;> simp [h]

@[simp] theorem State.lineNewMode_frame (s : State) (p : LineParams) :
    (s.lineNewMode p).rail = s.rail ∧ (s.lineNewMode p).pins = s.pins ∧ (s.lineNewMode p).now = s.now ∧
    (s.lineNewMode p).pending = s.pending := by
  unfold State.lineNewMode
  simp

@[simp] theorem State.applyLine_frame (s : State) (p : LineParams) :
    (s.applyLine p).rail = s.rail ∧ (s.applyLine p).pins = s.pins ∧ (s.applyLine p).now = s.now ∧ (s.applyLine
    p).pending = s.pending := by
  unfold State.applyLine
  (try dsimp only)
  (repeat' split) <;> simp

@[simp] theorem State.applyPosition_frame (s : State) (p : Pos) :
    (s.applyPosition p).rail = s.rail ∧ (s.applyPosition p).pins = s.pins ∧ (s.applyPosition p).now = s.now ∧
    (s.applyPosition p).pending = s.pending := by
  unfold State.applyPosition
  simp

/-! ### The link -/

@[simp] theorem State.takeTargets_frame (s : State) (r : ItemRecord) (c : Closing) (ts : List Target) :
    (s.takeTargets r c ts).state.now = s.now ∧ (s.takeTargets r c ts).state.pending = s.pending := by
  unfold State.takeTargets
  (try dsimp only)
  (repeat' split) <;> simp [State.refuseVerdict, State.decide]

@[simp] theorem State.markFlag_frame (s : State) (f : FaultFlag) :
    (s.markFlag f).now = s.now ∧ (s.markFlag f).pending = s.pending := by
  unfold State.markFlag
  split <;> simp

@[simp] theorem State.clearFlag_frame (s : State) (f : FaultFlag) :
    (s.clearFlag f).now = s.now ∧ (s.clearFlag f).pending = s.pending := by
  unfold State.clearFlag
  split <;> simp

/-- No request touches the time base or the commands waiting, except that it is not itself among them. -/
@[simp] theorem handRequest_frame (k : RequestKind) (p : List Byte) (s : State) :
    (handRequest k p s).state.now = s.now ∧ (handRequest k p s).state.pending = s.pending := by
  have hm := foldl_same (f := State.markFlag) (g := fun t : State => (t.now, t.pending)) (fun t x => by simp)
  have hc := foldl_same (f := State.clearFlag) (g := fun t : State => (t.now, t.pending)) (fun t x => by simp)
  simp only [Prod.mk.injEq] at hm hc
  cases k <;>
    simp only [handRequest, runIdent, runStatus, runClearFaults, runSetLink, runSetNotices, runReset, runSetLine,
      runSetLane, runSetValve, runSetHold, runSetPosition, runArm, runDisarm, runVerdict, runCancel, runQueryItem,
      runQueryValve, runTestFire, runEnableValve, runDisableValve, State.takeVerdict] <;>
    (repeat' split) <;>
    simp [State.refuse, State.accept, State.answer, State.refuseVerdict, State.refuseCancel, State.withdraw,
      State.decide, hm, hc]

@[simp] theorem State.execute_frame (s : State) (f : Frame) :
    (s.execute f).now = s.now ∧ (s.execute f).pending = s.pending := by
  unfold State.execute answerFrame
  (try dsimp only)
  (repeat' split) <;> simp [State.refuse]

@[simp] theorem State.executeOldest_frame (s : State) :
    s.executeOldest.now = s.now ∧ s.executeOldest.pending = s.pending := by
  unfold State.executeOldest
  split <;> simp

@[simp] theorem State.offerFrame_frame (s : State) (f : Frame) :
    (s.offerFrame f).now = s.now ∧ (s.offerFrame f).pending = s.pending := by
  unfold State.offerFrame
  split <;> simp

@[simp] theorem State.acceptFrame_frame (s : State) (f : Frame) :
    (s.acceptFrame f).now = s.now ∧ (s.acceptFrame f).pending = s.pending := by
  unfold State.acceptFrame
  simp

end Sys2Proof.Machine
end

