-- ==== Sys2Proof/Laws/Handing.lean ====
section
/-! SUPPORT. How changes of motion and source are handed, in the words of the statements, and what an offer and an
occurrence leave of the notices that waited. -/

namespace Sys2Proof.Machine

/-! ### Handing (R17, R26) -/

/-- A motion change is handed as R17 says. -/
theorem State.handMotion_hands (s : State) (old : Motion) : HandsMotion s old (s.handMotion old) := by
  refine ⟨fun h => by simp [State.handMotion, h], fun h => ?_⟩
  obtain ⟨o, e⟩ := s.choose_snd 2
  refine ⟨o, ?_⟩
  unfold State.handMotion
  rw [if_neg h]
  dsimp only
  split
  · exact .inl (by rw [e]; rfl)
  · exact .inr (by rw [e]; rfl)

/-- A source change is handed as R26 says. -/
theorem State.handSourceFrom_hands (s : State) (old : SourceKind) : HandsSource s old (s.handSourceFrom old) := by
  refine ⟨fun h => by simp [State.handSourceFrom, h], fun h => ?_⟩
  unfold State.handSourceFrom State.handSource State.lanesSource
  rw [if_neg h, State.lanes_offer]

/-- An entry into LOST is handed as R17, R26 and R148 say. -/
theorem State.enterLost_hands (s : State) (cause : LostCause) :
    HandsLost { s with belt := s.belt.lose } cause s.belt.motion (s.enterLost cause) := by
  have h : (s.putBelt s.belt.lose).handLost cause = (ToldLost { s with belt := s.belt.lose } cause).takeLost cause := by
    unfold State.handLost ToldLost State.lanesSource
    rw [State.lanes_offer]
    rfl
  unfold HandsLost State.enterLost
  rw [← h]
  exact State.handMotion_hands _ _

/-! ### Notices that waited (R171, R172) -/

/-- Nothing offered, nothing begun. -/
theorem NoticesKept.refl (l : Link) : NoticesKept l l := ⟨[], .inl ⟨Eq.refl _, by simp⟩⟩

/-- One event after another that leaves the reply slot; a second notice cannot begin behind the first. -/
theorem NoticesKept.trans {l m k : Link} (h : NoticesKept l m) (g : NoticesKept m k) (hs : m.slot = l.slot) :
    NoticesKept l k := by
  obtain ⟨xs, ⟨ht, hn⟩ | ⟨hf, hslot, n, hn, ht⟩⟩ := h
  · obtain ⟨ys, ⟨gt, gn⟩ | ⟨gf, gslot, n, gn, gt⟩⟩ := g
    · exact ⟨xs ++ ys, .inl ⟨gt.trans ht, by rw [gn, hn, List.append_assoc]⟩⟩
    · exact ⟨xs ++ ys, .inr ⟨by rw [← ht, gf], by rw [← hs, gslot], n, by rw [← List.append_assoc, ← hn, gn], gt⟩⟩
  · obtain ⟨ys, ⟨gt, gn⟩ | ⟨gf, _⟩⟩ := g
    · exact ⟨xs ++ ys, .inr ⟨hf, hslot, n, by rw [← List.append_assoc, hn, gn, List.cons_append], gt.trans ht⟩⟩
    · rw [ht] at gf; cases gf

/-- An offer keeps the notices that waited (R171, R172). -/
theorem State.noticesKept_offer (s : State) (n : Notice) : NoticesKept s.link (s.offer n).link := by
  unfold State.offer
  split
  · split
    · exact ⟨[n], .inl ⟨Eq.refl _, Eq.refl _⟩⟩
    · rename_i _ hr
      unfold State.noticeDropped
      dsimp only
      split
      · exact .refl _
      · unfold State.offerDropFault
        split
        · rename_i hb
          obtain ⟨o, ho⟩ := (s.putFlag .noticeDrop ⟨true, false⟩).choose_snd 2
          dsimp only
          split
          · rw [ho]; exact .refl _
          · rw [ho]
            simp only [Bool.and_eq_true, Link.noticeCanBegin, beq_iff_eq, Option.isNone_iff_eq_none] at hb
            cases hq : s.link.notices with
            | nil => simp [hq, Config.maxNotices] at hr
            | cons m ms =>
              refine ⟨[.fault .noticeDrop], .inr ⟨hb.2.1, hb.2.2, m, ?_, ?_⟩⟩
              all_goals simp [Link.queueNotice, Link.beginNotice, State.putFlag, hq]
        · exact .refl _
  · exact .refl _

/-- So does an occurrence (R154). -/
theorem State.noticesKept_occur (s : State) (f : FaultFlag) : NoticesKept s.link (s.occur f).link := by
  unfold State.occur
  split
  · exact .refl _
  · exact State.noticesKept_offer _ _

end Sys2Proof.Machine
end

