-- ==== Sys2Proof/Laws/Link.lean ====
section
/-! SUPPORT. What the Link Port's shared operations do, said once: offering a frame, executing the oldest request, and
answering by kind and size. -/

namespace Sys2Proof.Machine

/-- A kind code names its request (Table 9-2). -/
@[simp] theorem RequestKind.ofCode_code (k : RequestKind) : RequestKind.ofCode? k.code = some k := by
  cases k <;> decide

/-- A frame of a known kind and the right size goes to its owner (R169). -/
theorem answerFrame_known (k : RequestKind) (tag : Byte) (p : List Byte) (s : State) (h : p.length = k.size) :
    answerFrame ⟨k.code, tag, p⟩ s = handRequest k p s := by
  simp [answerFrame, h]

/-- A frame of a known kind and another size is answered BAD_LENGTH (R169). -/
theorem answerFrame_badLength (k : RequestKind) (tag : Byte) (p : List Byte) (s : State) (h : p.length ≠ k.size) :
    answerFrame ⟨k.code, tag, p⟩ s = s.refuse .badLength := by
  simp [answerFrame, h]

/-- A frame of an unknown kind is answered UNKNOWN_KIND (R169). -/
theorem answerFrame_unknown (f : Frame) (s : State) (h : RequestKind.ofCode? f.kind = none) :
    answerFrame f s = s.refuse .unknownKind := by
  simp [answerFrame, h]

/-- A frame that finds the link ready is executed at once, and the queue is empty again (R167, R168). -/
theorem State.acceptFrame_ready (s : State) (f : Frame) (h : s.linkReady) : s.acceptFrame f = s.execute f := by
  obtain ⟨hq, hs, hh⟩ := h
  cases s with
  | mk belt lanes table sched drive rail ctrl link pins now order pending =>
    cases link with
    | mk settings rx queue hold slot notices mask tx =>
      dsimp only at hq hs hh
      subst hq hs hh
      simp [State.acceptFrame, State.offerFrame, State.executeOldest]

/-- With the slot full or the hold mark set nothing is executed (R168, R177). -/
theorem State.executeOldest_waits (s : State) (h : s.link.slot ≠ none ∨ s.link.hold = true) : s.executeOldest = s := by
  unfold State.executeOldest
  split
  · rename_i hs hh
    rcases h with h | h
    · exact absurd hs h
    · exact absurd (hh.symm.trans h) (by decide)
  · rfl

/-- With the queue empty nothing is executed. -/
theorem State.executeOldest_nil (s : State) (h : s.link.queue = []) : s.executeOldest = s := by
  unfold State.executeOldest
  split
  · rename_i hq _ _
    rw [h] at hq
    exact absurd hq (by simp)
  · rfl

/-- A frame that finds room waits behind those queued (R167). -/
theorem State.offerFrame_room (s : State) (f : Frame) (h : s.link.queue.length < 2) :
    s.offerFrame f = { s with link := { s.link with queue := s.link.queue ++ [f] } } := by
  simp [State.offerFrame, h]

/-- A frame that finds two queued is an occurrence of LINK_OVERRUN (R167). -/
theorem State.offerFrame_full (s : State) (f : Frame) (h : 2 ≤ s.link.queue.length) :
    s.offerFrame f = s.occur .linkOverrun := by
  have h' : ¬ s.link.queue.length < 2 := by omega
  simp [State.offerFrame, h']

/-- What executing a request of a known kind and size does when its owner leaves the rest of the link alone. -/
theorem State.execute_known (s : State) (k : RequestKind) (tag : Byte) (p : List Byte) (h : p.length = k.size) :
    s.execute ⟨k.code, tag, p⟩ =
      (handRequest k p s).state.withReply (replyKind k.code) tag (handRequest k p s).body
        (handRequest k p s).after := by
  unfold State.execute
  rw [answerFrame_known k tag p s h]
  rfl

/-! ### Characters (R162) -/

/-- A character has as many bits as the settings give it (R162). -/
@[simp] theorem Parity.length_character (p : Parity) (b : Byte) : (p.character b).length = p.charBits := by
  cases p <;> simp [Parity.character, Parity.bit, Parity.charBits]

/-- The parity bit that a sender adds matches (R162). -/
@[simp] theorem Parity.mismatch_levelFor (p : Parity) (b : Byte) : p.mismatch b (p.levelFor b) = false := by
  cases p <;> simp [Parity.mismatch, Parity.levelFor, Parity.bit]

/-- A character with its matching parity bit and a high stop bit has no error (R162). -/
theorem Link.charError_levelFor (l : Link) (b : Byte) :
    l.charError b (l.settings.parity.levelFor b) .high = false := by
  simp [Link.charError]

end Sys2Proof.Machine
end

