-- ==== Sys2Proof/Laws/PerInstr.lean ====
section
/-! SUPPORT. The family EnvelopeFits: a well-formed command carries at most 200 payload bytes (section 8.2). One lemma per
command. -/

namespace Sys2Proof.Laws.EnvelopeFits

open Sys2Proof

/-- A well-formed command's frame, if it is one, has a payload of at most 200 bytes. -/
def Statement (i : Instr) : Prop := i.wellFormed = true → ∀ f, i.frame? = some f → f.payload.length ≤ 200

/-- What the check on the envelope says (section 8.2). -/
theorem of_wellFormed (i : Instr) : Statement i := by
  intro h f hf
  unfold Instr.wellFormed at h
  rw [hf] at h
  simp only [Bool.and_eq_true] at h
  exact of_decide_eq_true h.1

/-- POWER_ON_RESET. -/
theorem powerOnReset : Statement (.powerOnReset) := of_wellFormed _

/-- PIN_RESET. -/
theorem pinReset (lowMicros : Nat) : Statement (.pinReset lowMicros) := of_wellFormed _

/-- IDENT. -/
theorem ident (tag : Byte) (payload : List Byte) : Statement (.ident tag payload) := of_wellFormed _

/-- STATUS. -/
theorem status (tag : Byte) (payload : List Byte) : Statement (.status tag payload) := of_wellFormed _

/-- CLEAR_FAULTS. -/
theorem clearFaults (tag : Byte) (payload : List Byte) : Statement (.clearFaults tag payload) := of_wellFormed _

/-- SET_LINK. -/
theorem setLink (tag : Byte) (payload : List Byte) : Statement (.setLink tag payload) := of_wellFormed _

/-- SET_NOTICES. -/
theorem setNotices (tag : Byte) (payload : List Byte) : Statement (.setNotices tag payload) := of_wellFormed _

/-- RESET. -/
theorem reset (tag : Byte) (payload : List Byte) : Statement (.reset tag payload) := of_wellFormed _

/-- SET_LINE. -/
theorem setLine (tag : Byte) (payload : List Byte) : Statement (.setLine tag payload) := of_wellFormed _

/-- SET_LANE. -/
theorem setLane (tag : Byte) (payload : List Byte) : Statement (.setLane tag payload) := of_wellFormed _

/-- SET_VALVE. -/
theorem setValve (tag : Byte) (payload : List Byte) : Statement (.setValve tag payload) := of_wellFormed _

/-- SET_HOLD. -/
theorem setHold (tag : Byte) (payload : List Byte) : Statement (.setHold tag payload) := of_wellFormed _

/-- SET_POSITION. -/
theorem setPosition (tag : Byte) (payload : List Byte) : Statement (.setPosition tag payload) := of_wellFormed _

/-- ARM. -/
theorem arm (tag : Byte) (payload : List Byte) : Statement (.arm tag payload) := of_wellFormed _

/-- DISARM. -/
theorem disarm (tag : Byte) (payload : List Byte) : Statement (.disarm tag payload) := of_wellFormed _

/-- VERDICT. -/
theorem verdict (tag : Byte) (payload : List Byte) : Statement (.verdict tag payload) := of_wellFormed _

/-- CANCEL. -/
theorem cancel (tag : Byte) (payload : List Byte) : Statement (.cancel tag payload) := of_wellFormed _

/-- QUERY_ITEM. -/
theorem queryItem (tag : Byte) (payload : List Byte) : Statement (.queryItem tag payload) := of_wellFormed _

/-- QUERY_VALVE. -/
theorem queryValve (tag : Byte) (payload : List Byte) : Statement (.queryValve tag payload) := of_wellFormed _

/-- TEST_FIRE. -/
theorem testFire (tag : Byte) (payload : List Byte) : Statement (.testFire tag payload) := of_wellFormed _

/-- ENABLE_VALVE. -/
theorem enableValve (tag : Byte) (payload : List Byte) : Statement (.enableValve tag payload) := of_wellFormed _

/-- DISABLE_VALVE. -/
theorem disableValve (tag : Byte) (payload : List Byte) : Statement (.disableValve tag payload) := of_wellFormed _

/-- UNKNOWN_KIND. -/
theorem unknownKind (kind : Byte) (tag : Byte) (payload : List Byte) : Statement (.unknownKind kind tag payload) := of_wellFormed _

/-- QUADRATURE_COUNT. -/
theorem quadratureCount (encA : Level) (encB : Level) : Statement (.quadratureCount encA encB) := of_wellFormed _

/-- PULSE_DIR_COUNT. -/
theorem pulseDirCount (encB : Level) : Statement (.pulseDirCount encB) := of_wellFormed _

/-- ENC_PHASE. -/
theorem encPhase (encA : Level) (encB : Level) : Statement (.encPhase encA encB) := of_wellFormed _

/-- TIMED_STEP. -/
theorem timedStep : Statement (.timedStep) := of_wellFormed _

/-- ESTIMATED_STEP. -/
theorem estimatedStep : Statement (.estimatedStep) := of_wellFormed _

/-- RUN_CHANGE. -/
theorem runChange (level : Level) : Statement (.runChange level) := of_wellFormed _

/-- STOP_TIMER_EXPIRY. -/
theorem stopTimerExpiry : Statement (.stopTimerExpiry) := of_wellFormed _

/-- LOSS_TIMER_EXPIRY. -/
theorem lossTimerExpiry : Statement (.lossTimerExpiry) := of_wellFormed _

/-- LIMIT_TIMER_EXPIRY. -/
theorem limitTimerExpiry : Statement (.limitTimerExpiry) := of_wellFormed _

/-- CONFIRMING_GAP. -/
theorem confirmingGap : Statement (.confirmingGap) := of_wellFormed _

/-- SILENCE_TIMER_EXPIRY. -/
theorem silenceTimerExpiry : Statement (.silenceTimerExpiry) := of_wellFormed _

/-- EYE_RAW_CHANGE. -/
theorem eyeRawChange (lane : Fin 8) (level : Level) : Statement (.eyeRawChange lane level) := of_wellFormed _

/-- DEBOUNCE_EXPIRY. -/
theorem debounceExpiry (lane : Fin 8) : Statement (.debounceExpiry lane) := of_wellFormed _

/-- PULL_IN_TIMER_EXPIRY. -/
theorem pullInTimerExpiry (valve : Fin 16) : Statement (.pullInTimerExpiry valve) := of_wellFormed _

/-- OVERTIME. -/
theorem overtime (valve : Fin 16) : Statement (.overtime valve) := of_wellFormed _

/-- TEST_END. -/
theorem testEnd (valve : Fin 16) : Statement (.testEnd valve) := of_wellFormed _

/-- PWM_PERIOD_START. -/
theorem pwmPeriodStart (valve : Fin 16) : Statement (.pwmPeriodStart valve) := of_wellFormed _

/-- PWM_ON_TIME_END. -/
theorem pwmOnTimeEnd (valve : Fin 16) : Statement (.pwmOnTimeEnd valve) := of_wellFormed _

/-- RAIL_LOW_ENTRY. -/
theorem railLowEntry : Statement (.railLowEntry) := of_wellFormed _

/-- RAIL_NORMAL_ENTRY. -/
theorem railNormalEntry : Statement (.railNormalEntry) := of_wellFormed _

/-- FRAME_COMPLETE. -/
theorem frameComplete (byte : Byte) : Statement (.frameComplete byte) := of_wellFormed _

/-- FRAME_ERROR. -/
theorem frameError (byte : Byte) (tail : CharTail) : Statement (.frameError byte tail) := of_wellFormed _

/-- GAP_TIMER_EXPIRY. -/
theorem gapTimerExpiry : Statement (.gapTimerExpiry) := of_wellFormed _

/-- IDLE_TIMER_EXPIRY. -/
theorem idleTimerExpiry : Statement (.idleTimerExpiry) := of_wellFormed _

/-- TRANSMIT_START. -/
theorem transmitStart : Statement (.transmitStart) := of_wellFormed _

/-- TRANSMIT_END. -/
theorem transmitEnd : Statement (.transmitEnd) := of_wellFormed _

/-- CHARACTER_RECEIVED. -/
theorem characterReceived (byte : Byte) (tail : CharTail) : Statement (.characterReceived byte tail) := of_wellFormed _

/-- FALLING_ENC_A. -/
theorem fallingEncA (encB : Level) : Statement (.fallingEncA encB) := of_wellFormed _

end Sys2Proof.Laws.EnvelopeFits
end

