-- ==== Sys2Proof/Laws/Stores.lean ====
section
/-! SUPPORT. What the shared operations on records and queues do: outcomes, cuts, purges, the examination of a queue. -/

namespace Sys2Proof.Machine

/-! ### Outcomes written into records (R63) -/

/-- Changing targets leaves a record decided or not. -/
@[simp] theorem ItemRecord.isDecided_mapTargets (r : ItemRecord) (f : List RecordTarget → List RecordTarget) :
    ItemRecord.isDecided { r with progress := r.progress.mapTargets f } = r.isDecided := by
  cases r with
  | mk _ _ _ _ _ _ _ p => cases p <;> rfl

/-- Writing an outcome keeps the tags in order. -/
@[simp] theorem State.tags_writeOutcome (s : State) (o : TargetOutcome) (c : Contribution) :
    (s.writeOutcome o c).table.records.map ItemRecord.tag = s.table.records.map ItemRecord.tag := by
  simp only [State.writeOutcome, State.updateRecord, State.records_putRecords, List.map_map]
  congr 1
  funext r
  simp only [Function.comp]
  split <;> rfl

/-- Writing outcomes keeps the tags in order. -/
@[simp] theorem State.tags_writeOutcomes (s : State) (o : TargetOutcome) (cs : List Contribution) :
    (s.writeOutcomes o cs).table.records.map ItemRecord.tag = s.table.records.map ItemRecord.tag :=
  foldl_same (g := fun t : State => t.table.records.map ItemRecord.tag)
    (fun t c => State.tags_writeOutcome t o c) cs s

/-- Writing outcomes leaves the counter, position and motion of the table. -/
@[simp] theorem State.table_writeOutcomes (s : State) (o : TargetOutcome) (cs : List Contribution) :
    (s.writeOutcomes o cs).table.nextTag = s.table.nextTag ∧
    (s.writeOutcomes o cs).table.position = s.table.position ∧
    (s.writeOutcomes o cs).table.motion = s.table.motion := by
  obtain ⟨rs, h⟩ := State.writeOutcomes_eq o cs s
  rw [h]
  exact ⟨rfl, rfl, rfl⟩

/-- No contributions, no change. -/
@[simp] theorem State.writeOutcomes_nil (s : State) (o : TargetOutcome) : s.writeOutcomes o [] = s := rfl

/-- Writing one outcome is the change of one target of one tag (R63). -/
theorem State.writeOutcome_served (s : State) (o : TargetOutcome) (c : Contribution) :
    s.writeOutcome o c = { s with table := s.table.withOutcomes (served o [c]) } := by
  have h : ∀ ts : List RecordTarget, ts.modify c.index (fun t => { t with outcome := o }) =
      ts.mapIdx (fun i x => { x with outcome := (if c.index = i then some o else none).getD x.outcome }) := by
    intro ts
    apply List.ext_getElem?
    intro i
    rw [List.getElem?_modify, List.getElem?_mapIdx]
    cases ts[i]? with
    | none => rfl
    | some x => by_cases e : c.index = i <;> simp [e]
  simp only [State.writeOutcome, State.updateRecord, State.putRecords, Table.withOutcomes, served, names,
    List.any_cons, List.any_nil, Bool.or_false, Bool.and_eq_true, beq_iff_eq]
  congr 2
  apply List.map_congr_left
  intro r _
  by_cases e : r.tag = c.tag
  · cases r with
    | mk tag lane leading estimated blocked horizon snapshot progress =>
      dsimp only at e
      subst e
      cases progress <;> simp [Progress.mapTargets, h]
  · have e' : ¬ c.tag = r.tag := fun q => e q.symm
    cases r with
    | mk tag lane leading estimated blocked horizon snapshot progress =>
      dsimp only at e e'
      cases progress <;> simp [Progress.mapTargets, e, e', List.mapIdx_eq_zipIdx_map]

/-- Of two outcomes written one after the other the second stands (R63). -/
theorem Table.withOutcomes_withOutcomes (t : Table) (f g : Nat → Nat → Option TargetOutcome) :
    (t.withOutcomes f).withOutcomes g = t.withOutcomes (fun tag i => (g tag i).or (f tag i)) := by
  simp only [Table.withOutcomes, List.map_map]
  congr 1
  apply List.map_congr_left
  intro r _
  have h : ∀ ts : List RecordTarget,
      (ts.mapIdx (fun i x => { x with outcome := (f r.tag i).getD x.outcome })).mapIdx
          (fun i x => { x with outcome := (g r.tag i).getD x.outcome }) =
        ts.mapIdx (fun i x => { x with outcome := ((g r.tag i).or (f r.tag i)).getD x.outcome }) := by
    intro ts
    apply List.ext_getElem?
    intro i
    simp only [List.getElem?_mapIdx, Option.map_map]
    cases ts[i]? with
    | none => rfl
    | some x => cases g r.tag i <;> rfl
  cases r with
  | mk tag lane leading estimated blocked horizon snapshot progress =>
    cases progress <;> simp only [Function.comp, Progress.mapTargets, h]

/-- Writing one outcome for several contributions is the change of the targets they serve (R63). -/
theorem State.writeOutcomes_served (o : TargetOutcome) : ∀ (cs : List Contribution) (s : State), cs ≠ [] →
    s.writeOutcomes o cs = { s with table := s.table.withOutcomes (served o cs) }
  | [], _, h => absurd rfl h
  | [c], s, _ => State.writeOutcome_served s o c
  | c :: d :: ds, s, _ => by
    have ih := State.writeOutcomes_served o (d :: ds) (s.writeOutcome o c) (by simp)
    show (s.writeOutcome o c).writeOutcomes o (d :: ds) = _
    rw [ih, State.writeOutcome_served]
    dsimp only
    rw [Table.withOutcomes_withOutcomes]
    congr 2
    funext tag i
    simp only [served, names, List.any_cons, List.any_nil, Bool.or_false]
    have either : ∀ x y : Bool, (if y = true then some o else none).or (if x = true then some o else none) =
        if (x || y) = true then some o else none := by
      intro x y
      cases x <;> cases y <;> rfl
    exact either _ _

/-! ### What a removal leaves (R91, R108) -/

/-- The least open point of contributions, as points. -/
theorem leastOpen_eq (c : Contribution) (cs : List Contribution) :
    leastOpen c cs = leastPoint ((c :: cs).map Contribution.openAt) := by
  simp only [leastOpen, leastPoint, List.map_cons, List.foldl_map]
  rfl

/-- The greatest close point of contributions, as points. -/
theorem greatestClose_eq (c : Contribution) (cs : List Contribution) :
    greatestClose c cs = greatestPoint ((c :: cs).map Contribution.closeAt) := by
  simp only [greatestClose, greatestPoint, List.map_cons, List.foldl_map]
  rfl

/-- An action without the contributions of a tag, in the words of the statements (R91, R108). -/
theorem Action.withoutTag_eq (a : Action) (tag : Nat) : a.withoutTag tag = leftWithout tag a := by
  have h : (a.ofTag tag).isEmpty = true ↔
      (a.contribs.filter (fun k => k.tag != tag)).length = a.contribs.length := by
    rw [List.length_filter_eq_length_iff, Action.ofTag, List.isEmpty_iff, List.filter_eq_nil_iff]
    simp
  unfold Action.withoutTag leftWithout
  dsimp only
  by_cases e : (a.ofTag tag).isEmpty = true
  · rw [if_pos e, if_pos (h.mp e)]
  · rw [if_neg e, if_neg (fun q => e (h.mpr q))]
    unfold Action.keeping
    split
    · rename_i hk
      rw [if_pos hk]
    · rename_i c cs hk hs
      rw [hk, if_neg (by simp), if_pos hs, leastOpen_eq, greatestClose_eq]
    · rename_i c cs hk hs
      rw [hk, if_neg (by simp), if_neg (by rw [hs]; decide)]

/-! ### What joining gathers (R91, R93, R95) -/

/-- Placing a contribution loses none and adds it (R91). -/
theorem insertContribution_perm (c : Contribution) : ∀ cs, (insertContribution c cs).Perm (c :: cs)
  | [] => .refl _
  | d :: ds => by
    unfold insertContribution
    split
    · exact .refl _
    · exact ((insertContribution_perm c ds).cons d).trans (.swap c d ds)

/-- A contribution is placed before the first whose open point comes after its own (R91). -/
theorem insertContribution_placed (c : Contribution) : ∀ cs, PlacedIn Contribution.openAt c cs (insertContribution c cs)
  | [] => ⟨[], [], rfl, rfl, by simp, by simp⟩
  | d :: ds => by
    unfold insertContribution
    split
    · rename_i h
      exact ⟨[], d :: ds, rfl, rfl, by simp, by simpa using h⟩
    · rename_i h
      obtain ⟨front, back, hb, ha, hf, hr⟩ := insertContribution_placed c ds
      refine ⟨d :: front, back, by rw [hb, List.cons_append], by rw [ha, List.cons_append], ?_, hr⟩
      intro e he
      rcases List.mem_cons.mp he with rfl | he
      · simpa using h
      · exact hf e he

/-- Two actions as one hold the contributions of both (R95). -/
theorem Action.contribs_merge (a b : Action) : (a.merge b).contribs.Perm (a.contribs ++ b.contribs) := by
  have h : ∀ (ds cs : List Contribution), (ds.foldl (fun cs c => insertContribution c cs) cs).Perm (cs ++ ds) := by
    intro ds
    induction ds with
    | nil => intro cs; simp
    | cons d ds ih =>
      intro cs
      rw [List.foldl_cons]
      exact (ih _).trans (((insertContribution_perm d cs).append_right ds).trans List.perm_middle.symm)
  exact h b.contribs a.contribs

/-- Placing an action loses none and adds it (R93). -/
theorem insertAction_perm (a : Action) : ∀ q, (insertAction a q).Perm (a :: q)
  | [] => .refl _
  | b :: bs => by
    unfold insertAction
    split
    · exact .refl _
    · exact ((insertAction_perm a bs).cons b).trans (.swap a b bs)

/-! ### Cuts and purges (R107, R111) -/

/-- A valve is read from the drive alone. -/
theorem State.valve_of_drive {s t : State} (h : s.drive = t.drive) (v : Fin 16) : s.valve v = t.valve v := by
  simp [State.valve, h]

/-- A queue is read from the schedule alone. -/
theorem State.queue_of_sched {s t : State} (h : s.sched = t.sched) (v : Fin 16) : s.queue v = t.queue v := by
  simp [State.queue, h]

/-- A purged queue is empty, every other queue is as it was (R111). -/
theorem State.queue_purgeQueue (s : State) (v w : Fin 16) :
    (s.purgeQueue v).queue w = if v = w then [] else s.queue w := by
  have h : (s.purgeQueue v).sched = (s.putQueue v []).sched := by simp [State.purgeQueue]
  rw [State.queue_of_sched h, State.queue_putQueue]

/-- A cut leaves the QUEUED actions of its queue and every other queue (R107). -/
theorem State.queue_cutOpenAction (s : State) (v w : Fin 16) :
    (s.cutOpenAction v).queue w =
      if v = w then (s.queue v).filter (fun a => a.state == .queued) else s.queue w := by
  have h : (s.cutOpenAction v).sched =
      (s.putQueue v ((s.queue v).filter (fun a => a.state == .queued))).sched := by
    simp [State.cutOpenAction]
  rw [State.queue_of_sched h, State.queue_putQueue]

/-! ### Opening and examination (R104, R118) -/

/-- Starting an opening touches one valve (R118, R139). -/
theorem State.valve_startOpening_ne (s : State) {v w : Fin 16} (h : v ≠ w) :
    (s.startOpening v).valve w = s.valve w := by
  unfold State.startOpening
  dsimp only
  (repeat' split) <;> simp [State.valve_putValve, h]

/-- Releasing touches one valve. -/
theorem State.valve_releaseValve_ne (s : State) {v w : Fin 16} (h : v ≠ w) :
    (s.releaseValve v).valve w = s.valve w := by
  simp [State.releaseValve, State.valve_putValve, h]

/-- The examination of one queue touches no other queue and no other valve (R93, R104). -/
theorem State.examineQueue_other (p : Pos) {v w : Fin 16} (h : v ≠ w) : ∀ (q : List Action) (s : State),
    (State.examineQueue p v q s).queue w = s.queue w ∧ (State.examineQueue p v q s).valve w = s.valve w
  | [], s => by
    unfold State.examineQueue
    simp [State.queue_putQueue, h, State.valve]
  | a :: as, s => by
    unfold State.examineQueue
    have hs : ∀ (t : State), (t.startOpening v).queue w = t.queue w :=
      fun t => State.queue_of_sched (by simp) w
    have hw : ∀ (t : State) o cs, (State.writeOutcomes t o cs).queue w = t.queue w :=
      fun t o cs => State.queue_of_sched (by simp) w
    have hv : ∀ (t : State) o cs, (State.writeOutcomes t o cs).valve w = t.valve w :=
      fun t o cs => State.valve_of_drive (by simp) w
    have hr : ∀ (t : State), (t.releaseValve v).queue w = t.queue w :=
      fun t => State.queue_of_sched (by simp) w
    have hp : ∀ (t : State) (q : List Action), (t.putQueue v q).valve w = t.valve w :=
      fun t q => State.valve_of_drive (by simp) w
    (repeat' split) <;>
      simp [State.examineQueue_other p h as, hs, hw, hv, hr, hp, State.queue_putQueue, h,
        State.valve_startOpening_ne _ h, State.valve_releaseValve_ne _ h]

/-- A QUEUED head whose effective open point is unreached leaves the queue as it is (R104). -/
theorem State.examineQueue_waits (p : Pos) (v : Fin 16) (a : Action) (as : List Action) (s : State)
    (hq : a.state = .queued) (hr : effOpenReached p (s.advance v) a.openAt = false) :
    State.examineQueue p v (a :: as) s = s.putQueue v (a :: as) := by
  unfold State.examineQueue
  simp [hq, hr]

end Sys2Proof.Machine
end

