-- ==== Sys2Proof/Tests/Slice0.lean ====
section
/-! SUPPORT. The model's own tests: the well-formedness checks, the manual's worked examples on small states, and for
every statement with hypotheses a state and operands that meet them, each clause at a boundary of its range. -/

namespace Sys2Proof.Tests

set_option maxRecDepth 20000

open Sys2Proof Sys2Proof.Machine

/-! ### Small states -/

/-- The state a command leaves. -/
def after (c : Instr) (s : State) : State :=
  match exec c s with
  | .next t => t
  | .fault _ => s
  | .refused _ => s

/-- The payload in the reply slot. -/
def replyOf (s : State) : List Byte :=
  match s.link.slot with
  | some r => r.frame.payload
  | none => []

/-- The part in a line state. -/
def inLine (l : LineState) : State := { State.reset with ctrl := { State.reset.ctrl with line := l } }

/-- The part with a belt, which every receiver has been handed. -/
def withBelt (b : Belt) : State :=
  { State.reset with
    belt := b,
    lanes := { State.reset.lanes with position := b.position, motion := b.motion, source := b.source.kind },
    table := { State.reset.table with position := b.position, motion := b.motion },
    sched := { State.reset.sched with position := b.position, motion := b.motion },
    drive := { State.reset.drive with motion := b.motion, period := b.par.pwmPeriod },
    ctrl := { State.reset.ctrl with motion := b.motion } }

/-- The reset belt in a source, a motion and a RUN level. -/
def belt (source : Source) (motion : Motion) (run : Bool) : Belt :=
  { Belt.reset with source := source, motion := motion, run := run }

/-- The reset belt in an encoder mode with a reference. -/
def beltIn (mode : EncMode) (ref : Option EncPair) : Belt :=
  { Belt.reset with par := { LineParams.reset with mode := mode }, encRef := ref }

/-- The part with lane 0 in a state, under a debounce time. -/
def withLane (st : LaneState) (cand : Option Candidate) (debounce : Nat) : State :=
  State.reset.putLane 0 { Lane.reset .high with
    cfg := { LaneParams.reset with enabled := true, debounce := debounce }, candidate := cand, state := st }

/-- The part with valve 0 in a state, output mode ACTIVE_HIGH and the rail NORMAL. -/
def withValve (st : ValveState) (out : Bool) : State :=
  ({ State.reset with
      rail := ⟨.normal, 0⟩, drive := { State.reset.drive with rail := .normal } }).putValve 0
    { Valve.reset with cfg := { ValveParams.reset with mode := .activeHigh }, state := st, out := out }

/-- The part with a link state. -/
def withLink (l : Link) : State := { State.reset with link := l }

/-- A candidate at a level. -/
def cand (level : Level) : Candidate := ⟨level, 1000, false, 0, 500⟩

/-- A record of lane 0 in a state, leading at 200,000 (section 4.4). -/
def record (tag : Nat) (p : Progress) : ItemRecord :=
  ⟨tag, 0, 200000, false, false, 210000, ⟨2000, 0x0030, []⟩, p⟩

/-- The closing of the record of section 4.4. -/
def closing : Closing := ⟨200800, 800, 240800⟩

/-- The part ARMED with one record, at position 204,000. -/
def withRecord (r : ItemRecord) : State :=
  { inLine .armed with
    table := ⟨[r], 60, 204000, .forward⟩,
    drive := { Drive.reset with
      valves := (Drive.reset.valves.set 4 { Valve.reset with
          cfg := { ValveParams.reset with mode := .activeHigh, nozzleOffset := 32000 } }).set 5
        { Valve.reset with cfg := { ValveParams.reset with mode := .activeHigh, nozzleOffset := 32000 } } } }

/-- An open capture at 200,000 for a tag. -/
def capture (tag : Nat) : OpenCapture := ⟨tag, 200000, false, 4, 4000, 20000⟩

/-- The target places of Table 9-22. -/
def places : List Target := [⟨4, 0xFF9C, .itemEnd 100⟩, ⟨5, 0, .fixed 400⟩]

/-- A contribution. -/
def contribution (tag index : Nat) (openAt closeAt : Pos) : Contribution := ⟨tag, index, openAt, closeAt, .pending⟩

/-! ### Well-formedness: a term each check refuses -/

theorem test_wf_accepts : (Instr.ident 7 []).wellFormed = true ∧ Instr.powerOnReset.wellFormed = true := by decide

theorem test_wf_payload_over_200_refused :
    (Instr.setLine 0 (List.replicate 201 0)).wellFormed = false ∧
    (Instr.setLine 0 (List.replicate 200 0)).wellFormed = true := by decide

theorem test_wf_known_kind_under_unknown_refused :
    (Instr.unknownKind 0x01 0 []).wellFormed = false ∧ (Instr.unknownKind 0x00 0 []).wellFormed = true := by decide

/-! ### Codes: every list of Table 9-5 ends where the manual ends it -/

theorem test_codes_end : EncMode.ofCode? 0 = none ∧ EncMode.ofCode? 4 = none ∧ Polarity.ofCode? 0 = none ∧
    Polarity.ofCode? 3 = none ∧ OutputMode.ofCode? 0 = none ∧ OutputMode.ofCode? 4 = none ∧
    levelOfCode? 2 = none ∧ boolOfCode? 2 = none ∧ Baud.ofCode? 0 = none ∧ Baud.ofCode? 8 = none ∧
    Parity.ofCode? 0 = none ∧ Parity.ofCode? 4 = none ∧ valveOf? 16 = none ∧ laneOf? 8 = none := by decide

theorem test_request_kinds_known :
    [(0x01 : Byte), 0x02, 0x03, 0x04, 0x05, 0x06, 0x10, 0x11, 0x12, 0x13, 0x14, 0x18, 0x19, 0x20, 0x21, 0x22, 0x28,
      0x29, 0x2A, 0x2B].all (fun k => (RequestKind.ofCode? k).isSome) = true ∧
    [(0x00 : Byte), 0x07, 0x0F, 0x15, 0x1A, 0x23, 0x2C, 0x81].all
      (fun k => (RequestKind.ofCode? k).isNone) = true := by decide

/-! ### Frames (R180, Table 9-22) -/

theorem test_crc_check_value :
    crc16 [0x31, 0x32, 0x33, 0x34, 0x35, 0x36, 0x37, 0x38, 0x39] = 0x29B1 := by decide

theorem test_verdict_frame_bytes :
    (Frame.bytes ⟨0x20, 0x07, verdictPayload 52 places⟩).take 19 =
      [0xA5, 0x1D, 0x20, 0x07, 0x00, 0x34, 0x02, 0x04, 0xFF, 0x9C, 0x01, 0x00, 0x64, 0x05, 0x00, 0x00, 0x02, 0x01,
       0x90] := by decide

theorem test_no_word_spells_a_command : decodeTableWord 8 0x01 = none := by decide

/-! ### Resets and link requests -/

theorem test_power_on_reset : after .powerOnReset (inLine .armed) = State.reset := by decide

theorem test_pin_reset_cause : (after (.pinReset 10) (inLine .armed)).ctrl.resetCause = .pin ∧
    (after (.pinReset 9) (inLine .armed)).ctrl.line = .armed := by decide

theorem test_reset_holds : (after (.reset 1 []) State.reset).link.hold = true := by decide

theorem test_ident_size : (replyOf (after (.ident 7 []) State.reset)).length = 22 := by decide

theorem test_status_marks : ((after (.status 7 []) (State.reset.occur .tableFull)).flag .tableFull) = ⟨true, true⟩ := by
  decide

/-- Table 10-6: an occurrence before CLEAR_FAULTS keeps the flag. -/
theorem test_clear_faults_race :
    (after (.clearFaults 7 [0x00, 0x20]) (State.reset.occur .tableFull)).flag .tableFull = ⟨true, false⟩ ∧
    (after (.clearFaults 7 [0x00, 0x20]) (State.reset.putFlag .tableFull ⟨true, true⟩)).flag .tableFull =
      ⟨false, false⟩ := by decide

theorem test_set_link : (after (.setLink 7 [7, 1]) State.reset).link.slot =
    some ⟨⟨0x84, 7, [0]⟩, .settings ⟨.b921600, .none⟩⟩ ∧
    replyOf (after (.setLink 7 [1, 4]) State.reset) = [3] := by decide

theorem test_set_notices : (after (.setNotices 7 [0x7F]) State.reset).link.mask = 0x7F := by decide

theorem test_unknown_kind : (after (.unknownKind 0x77 9 []) State.reset).link.slot =
    some ⟨⟨0xF7, 9, [1]⟩, .nothing⟩ := by decide

/-! ### Line, belt and lane requests -/

theorem test_set_line_out_of_config : replyOf (after (.setLine 1 LineParams.reset.payload) (inLine .armed)) = [4] := by
  decide

theorem test_set_line_new_mode :
    (after (.setLine 1 ({ LineParams.reset with mode := .timed }).payload) State.reset).belt.source = .timed := by decide

theorem test_set_lane_enables :
    ((after (.setLane 1 (({ LaneParams.reset with enabled := true }).payload 3)) (inLine .armed)).lane 3).state =
      .clear := by decide

theorem test_set_position : (after (.setPosition 1 [0xFF, 0xFF, 0xFF, 0xFF]) State.reset).sched.position =
    4294967295 := by decide

theorem test_arm : replyOf (after (.arm 1 []) (withLane .off none 0)) = [0, 1, 0] ∧
    (after (.arm 1 []) (withLane .off none 0)).link.notices = [.restart .powerOn, .lineState .armed 0 0] := by decide

theorem test_disarm : replyOf (after (.disarm 1 []) (withRecord (record 52 .entering))) = [0, 1, 0] := by decide

/-! ### Items (sections 4.4, 3.2) -/

/-- Table 4-4. -/
theorem test_verdict_points :
    ((after (.verdict 7 (verdictPayload 52 places)) (withRecord (record 52 (.awaiting closing)))).record? 52).map
      (fun r => r.progress.targets) =
    some [⟨4, 229900, 230900, .pending⟩, ⟨5, 230000, 230400, .pending⟩] := by decide

theorem test_verdict_pass : replyOf (after (.verdict 7 (verdictPayload 52 []))
    (withRecord (record 52 (.awaiting closing)))) = [0, 0, 0xFF] := by decide

theorem test_cancel_passes_awaiting : replyOf (after (.cancel 7 [0, 52])
    (withRecord (record 52 (.awaiting closing)))) = [0, 0, 0, 0] := by decide

theorem test_query_item_size : (replyOf (after (.queryItem 7 [0, 52])
    (withRecord (record 52 (.awaiting closing))))).length = 75 := by decide

/-- Table 3-4. -/
theorem test_tags_pass_over_held_values :
    Table.tagToUse ⟨[record 65535 .entering, record 1 .entering], 65534, 0, .stopped⟩ = 65534 ∧
    Table.tagToUse ⟨[record 65535 .entering, record 1 .entering, record 65534 .entering], 65535, 0, .stopped⟩ = 2 := by
  decide

/-- Table 5-4. -/
theorem test_bridge_touches :
    touches 20 (contribution 62 0 300380 300520) (.ofContribution (contribution 60 0 300000 300400)) = true ∧
    touches 20 (contribution 62 0 300380 300520) (.ofContribution (contribution 61 0 300500 300900)) = true := by decide

/-- Table 5-5. -/
theorem test_bridge_joins :
    (joinOne 20 (contribution 62 0 300380 300520)
      [.ofContribution (contribution 60 0 300000 300400), .ofContribution (contribution 61 0 300500 300900)]) =
    some [⟨.queued, 300000, 300900, [contribution 60 0 300000 300400, contribution 62 0 300380 300520,
      contribution 61 0 300500 300900]⟩] := by decide

/-- Table 10-3: the cap of four contributions. -/
theorem test_cap_is_a_conflict :
    joinOne 30 (contribution 304 0 500820 500900)
      [⟨.queued, 500000, 500800, [contribution 301 0 500000 500300, contribution 303 0 500250 500380,
        contribution 302 0 500400 500700, contribution 303 1 500600 500800]⟩] = none := by decide

/-- Section 0.7. -/
theorem test_advances : advanceFor 3000 120000 = 360 ∧ advanceFor 50000 500000 = 25000 ∧
    advanceFor 50000 2000000 = 65535 := by decide

/-! ### Valve requests and events -/

theorem test_set_valve : ((after (.setValve 1 (({ ValveParams.reset with holdDuty := 64 }).payload 2))
    State.reset).valve 2).duty = 64 := by decide

theorem test_set_hold : ((after (.setHold 1 [2, 64]) State.reset).valve 2).pendingDuty = 64 ∧
    replyOf (after (.setHold 1 [2, 65]) State.reset) = [3] := by decide

theorem test_query_valve_size : (replyOf (after (.queryValve 1 [15]) State.reset)).length = 123 := by decide

theorem test_fire : ((after (.testFire 1 [0, 0, 200]) (withValve .idle false)).valve 0).state = .test .pull 200 ∧
    replyOf (after (.testFire 1 [0, 0, 201]) (withValve .idle false)) = [3] := by decide

theorem test_enable_valve : replyOf (after (.enableValve 1 [0]) (withValve .disabled false)) = [0, 5] := by decide

theorem test_disable_valve : replyOf (after (.disableValve 1 [0]) (withValve .hold true)) = [0, 0, 0, 0] ∧
    ((after (.disableValve 1 [0]) (withValve .hold true)).valve 0).pin = .low := by decide

/-- The offsets of the sixteen valves for a period of 50 µs (6.4). -/
theorem test_period_offsets : allValves.map (periodOffset 50) =
    [0, 3, 6, 9, 12, 15, 18, 21, 25, 28, 31, 34, 37, 40, 43, 46] := by decide

theorem test_pull_in_end : ((after (.pullInTimerExpiry 0) (withValve .pullIn true)).valve 0).state = .hold := by decide

theorem test_overtime : ((after (.overtime 0) (withValve .hold true)).valve 0).state = .disabled := by decide

theorem test_test_end : ((after (.testEnd 0) (withValve (.test .hold 5) true)).valve 0).active = 5000 := by decide

theorem test_period_start : ((after (.pwmPeriodStart 0) (withValve .hold false)).valve 0).out = true := by decide

theorem test_on_time_end : ((after (.pwmOnTimeEnd 0) (withValve .hold true)).valve 0).out = false := by decide

theorem test_rail_low : ((after .railLowEntry (withValve .hold true)).valve 0).state = .idle := by decide

theorem test_rail_normal : (after .railNormalEntry State.reset).drive.rail = .normal := by decide

/-! ### Belt events -/

theorem test_quadrature_count :
    (after (.quadratureCount .high .low) (withBelt (beltIn .quadrature (some ⟨.low, .low⟩)))).belt.position = 1 ∧
    (after (.quadratureCount .low .high) (withBelt (beltIn .quadrature (some ⟨.low, .low⟩)))).belt.position =
      4294967295 := by decide

theorem test_phase_error :
    ((after (.encPhase .high .high) (withBelt (beltIn .quadrature (some ⟨.low, .low⟩)))).flag .encPhase).set =
      true := by decide

theorem test_pulse_dir :
    (after (.pulseDirCount .high) (withBelt (beltIn .pulseDir (some ⟨.low, .low⟩)))).belt.position = 4294967295 ∧
    (after (.fallingEncA .high) (withBelt (beltIn .pulseDir (some ⟨.high, .low⟩)))).belt.position = 0 := by decide

/-- Table 1-3, its last row: the eighth reverse count net of forward counts. -/
theorem test_short_reversal :
    (({ Belt.reset with motion := .forward, acc := 7, position := 9993 }).encoderCount .reverse 0).motion = .reverse ∧
    (({ Belt.reset with motion := .forward, acc := 5 }).encoderCount .forward 0).acc = 4 := by decide

theorem test_measured_speed : measuredSpeed [20, 20, 20, 20, 20, 20, 20, 20] = 50000 ∧
    measuredSpeed [20, 20, 20] = 50000 := by decide

theorem test_timed_step : (after .timedStep (withBelt { belt .timed .forward true with
    par := { LineParams.reset with mode := .timed }, gen := some 1000000 })).belt.gen = some 0 := by decide

theorem test_estimated_step : (after .estimatedStep (withBelt { belt .estimate .forward true with
    gen := some 1000000 })).belt.position = 1 := by decide

theorem test_run_change : (after (.runChange .high) State.reset).belt.lossTimer = some 0 := by decide

theorem test_stop_expiry : (after .stopTimerExpiry (withBelt { belt .encoder .forward false with
    stopTimer := some 100000 })).belt.motion = .stopped := by decide

theorem test_loss_expiry : (after .lossTimerExpiry (withBelt { belt .encoder .stopped true with
    lossTimer := some 50000 })).belt.source = .lost := by decide

theorem test_limit_expiry : (after .limitTimerExpiry (withBelt { belt .estimate .forward true with
    limitTimer := some 500000 })).belt.source = .lost := by decide

theorem test_confirming_gap : (after .confirmingGap (withBelt
    (belt (.confirming ⟨.estimate, 3, 50001⟩) .forward true))).belt.source = .estimate := by decide

theorem test_silence_expiry : (after .silenceTimerExpiry (withBelt { belt .lost .stopped true with
    silenceTimer := some 50000, restart := true })).belt.restart = false := by decide

/-! ### Eyes and link events -/

theorem test_eye_opens_candidate : ((after (.eyeRawChange 0 .low) (withLane .clear none 500)).lane 0).candidate =
    some ⟨.low, 0, false, 0, 500⟩ := by decide

theorem test_debounce_makes_item : (after (.debounceExpiry 0) (withLane .clear (some (cand .low)) 500)).table.nextTag =
    2 := by decide

theorem test_character_starts_frame :
    (after (.characterReceived 0xA5 ⟨.low, .high⟩) (withLink { Link.reset .reset .pin with rx := .hunt })).link.rx =
      .receive [] 0 := by decide

/-- An IDENT frame with request tag 7, character by character: its last character completes it. -/
theorem test_frame_complete :
    (after (.frameComplete ((Frame.bytes ⟨1, 7, []⟩).getD 5 0)) (withLink { Link.reset .reset .pin with
      rx := .receive (((Frame.bytes ⟨1, 7, []⟩).drop 1).take 4) 0 })).link.slot.isSome = true := by decide

theorem test_frame_error :
    ((after (.frameError 1 ⟨.high, .high⟩) (withLink { Link.reset .reset .pin with rx := .receive [] 0 })).flag .linkError).set =
      true := by decide

/-- The parity bit that makes the number of high bits even, or odd; with NONE no character has a parity error (R162). -/
theorem test_parity_bit : Parity.bit .even 0xA5 = some .low ∧ Parity.bit .odd 0xA5 = some .high ∧
    Parity.bit .even 0x07 = some .high ∧ Parity.bit .none 0x07 = Option.none ∧
    Parity.mismatch .even 0xA5 .high = true ∧ Parity.mismatch .none 0xA5 .high = false := by decide

/-- The eleven bits of 0xA5 with EVEN parity, its data bits least significant first (R162). -/
theorem test_character_bits : Parity.character .even 0xA5 =
    [.low, .high, .low, .high, .low, .low, .high, .low, .high, .low, .high] := by decide

/-- TXD in the first bit of a frame, in its second, and with the transmitter free: at 115,200 baud a bit lasts 8.68 µs
(R162). -/
theorem test_txd : (Link.txd { Link.reset .reset .pin with tx := .sending [0xA5] .nothing 8 }) = .low ∧
    (Link.txd { Link.reset .reset .pin with tx := .sending [0xA5] .nothing 9 }) = .high ∧
    (Link.reset .reset .pin).txd = .high := by decide

/-- A break: a framing error with RXD held low for 5 ms more; the idle timer does not run before the line is high
again (R166). -/
theorem test_break_keeps_quiet :
    (after (.characterReceived 0 ⟨.low, (.low 5000)⟩) State.reset).pins.rxd = .low 5000 ∧
    (after .idleTimerExpiry (after (.characterReceived 0 ⟨.low, (.low 5000)⟩) State.reset)).link.rx = .quiet 0 ∧
    Receiver.tick (.quiet 0) (.low 5000) = .quiet 0 ∧ RxLine.tick (.low 1) = .idle := by decide

/-- The drop that sets NOTICE_DROP with the transmitter free: by the open order the oldest notice has begun before the
FAULT notice, which finds room, or it has not (R172). -/
theorem test_notice_drop_orders :
    let full := withLink { Link.reset .reset .pin with notices := List.replicate 32 (.rail .low) }
    ({ full with order := [1] }.offer (.rail .normal)).link.notices =
      List.replicate 31 (.rail .low) ++ [.fault .noticeDrop] ∧
    ({ full with order := [0] }.offer (.rail .normal)).link.notices = List.replicate 32 (.rail .low) := by decide

theorem test_link_timers :
    (after .gapTimerExpiry (withLink { Link.reset .reset .pin with rx := .receive [] 3001 })).link.rx = .hunt ∧
    (after .idleTimerExpiry State.reset).link.rx = .hunt := by decide

theorem test_transmit : (after .transmitStart State.reset).link.notices = [] ∧
    (after .transmitEnd (after .transmitStart State.reset)).link.tx = .free := by decide

/-- The RESTART notice goes out: 11 characters of 11 bits at 115,200 baud are sent within 1,051 µs (log 12). -/
theorem test_restart_notice_bytes : (Notice.frame (.restart .powerOn)).bytes.length = 11 := by decide

/-- The state a step leaves. -/
def stepped (s : State) : State :=
  match step s with
  | .next t => t
  | .fault _ => s
  | .refused _ => s

theorem test_step_takes_front :
    (stepped { State.reset with pending := [.railNormalEntry, .railLowEntry] }).pending = [.railLowEntry] ∧
    (stepped { State.reset with pending := [.railNormalEntry, .railLowEntry] }).rail.state = .normal := by decide

/-! ### The hypotheses of the statements are met -/

/-- A state whose line is HALTED. -/
def halted : State := inLine (.halted .gap)

/-- A reply in the slot. -/
def aReply : Reply := ⟨⟨0x81, 0, [0]⟩, .nothing⟩

theorem test_hyp_EveryStepAnswersANextState :
    let sampled := { State.reset with pins := { State.reset.pins with eyes := Vector.replicate 8 ⟨some .low, .high⟩ } }
    State.reset.pending = [] ∧
    (Belt.reset.gen = none ∧ ({ belt .timed .forward true with gen := some 0 }).gen = some 0 ∧
      (belt .timed .forward true).source = .timed ∧ (belt .estimate .forward true).source = .estimate) ∧
    (State.reset.link.rx = .quiet 0 ∧ State.reset.pins.rxd = .idle ∧ State.reset.link.tx = .free) ∧
    (2 ≤ 2 ∧ RxLine.low 2 ≠ .idle ∧ RxLine.busy ≠ .idle) ∧
    (withLink { Link.reset .reset .pin with rx := .receive [7] 5 }).link.rx = .receive [7] 5 ∧
    sampled.pins.eyes[(0 : Fin 8)].drive = some (sampled.eyePin 0) ∧
    (State.reset.pins.eyes[(0 : Fin 8)].drive = none ∧ (State.reset.lane 0).cfg.pullUp = true ∧
      ({ LaneParams.reset with pullUp := false }).pullUp = false) ∧
    (((withValve .hold true).valve 0).carrying = true ∧
      ((withValve .hold true).valve 0).active + 1 < ((withValve .hold true).valve 0).cfg.maxOpen * 1000) ∧
    (let late := (withValve .hold true).putValve 0 { (withValve .hold true).valve 0 with active := 199999 }
     (late.valve 0).carrying = true ∧ (late.valve 0).cfg.maxOpen * 1000 ≤ (late.valve 0).active + 1) ∧
    (let late := (withValve (.test .hold 5) true).putValve 0 { (withValve (.test .hold 5) true).valve 0 with active := 4999 }
     (late.valve 0).state = .test .hold 5 ∧ 5 * 1000 ≤ (late.valve 0).active + 1) ∧
    ((withValve .idle false).rail.state = .normal ∧ (withValve .idle false).pins.vsns = .below) ∧
    (State.reset.rail.state = .low ∧
      ({ State.reset with pins := { State.reset.pins with vsns := .above } }).pins.vsns = .above) := by decide

/-- An eye that no sensor drives, sampled HIGH: back at the confirmed level, unlike it with a candidate open, and unlike it with
none, under a debounce time above 0 and of 0. -/
theorem test_hyp_SampledEye_undriven :
    let at' (confirmed : Level) (cand : Option Candidate) (debounce : Nat) : State :=
      (withLane .clear cand debounce).putLane 0 { (withLane .clear cand debounce).lane 0 with confirmed := confirmed }
    (at' .high none 1).eyePin 0 = ((at' .high none 1).lane 0).confirmed ∧
    (∀ s ∈ [at' .low none 1, at' .low none 0, at' .low (some (cand .high)) 1], s.eyePin 0 ≠ (s.lane 0).confirmed) ∧
    ((at' .low (some (cand .high)) 1).lane 0).candidate = some (cand .high) ∧
    ((at' .low none 1).lane 0).candidate = none ∧ 0 < ((at' .low none 1).lane 0).cfg.debounce ∧
    ((at' .low none 0).lane 0).cfg.debounce = 0 := by decide

/-- A valve in HOLD one microsecond before its max open time: that microsecond disables it by overtime; one whose close
comes in the same microsecond before the overtime stands in IDLE below its max open time (R128). -/
theorem test_last_microsecond :
    let late := (withValve .hold true).putValve 0 { (withValve .hold true).valve 0 with active := 199999 }
    ((stepped late).valve 0).state = .disabled ∧ ((stepped late).valve 0).active = 200000 ∧
    ((late.advanceTime.releaseValve 0).valve 0).active = 199999 ∧
    Due.due (late.advanceTime.releaseValve 0) (.activeEnd 0 199999) = false := by decide

/-- A test whose duration is the max open time, taken over in the microsecond that brings it there: the overtime follows in
the same microsecond (R125, R139). -/
theorem test_takeover_at_the_limit :
    let late := (withValve (.test .hold 200) true).putValve 0 { (withValve (.test .hold 200) true).valve 0 with active := 199999 }
    let taken := late.advanceTime.startOpening 0
    (taken.valve 0).state = .hold ∧ Due.due taken (.activeEnd 0 199999) = true ∧
    ((Due.fire taken (.activeEnd 0 199999)).valve 0).state = .disabled := by decide

theorem test_hyp_ThreeKindsOfReset : 10 ≤ 10 ∧ 9 < 10 ∧ State.reset.linkReady ∧
    (withLink { Link.reset .reset .pin with tx := .sending [1] .reset 0 }).link.tx = .sending [1] .reset 0 := by decide

theorem test_hyp_IdentAnswersTheConstantFields : State.reset.linkReady := by decide

theorem test_hyp_StatusGivesTheSnapshotThenMarks : State.reset.linkReady := by decide

theorem test_hyp_ClearFaultsClearsSeenFlagsWithoutCondition : State.reset.linkReady ∧
    (0x0800 : Half) &&& 0xF800 ≠ 0 ∧ (0x07FF : Half) &&& 0xF800 = 0 ∧
    (FaultFlag.linkError ≠ .encLost ∧ FaultFlag.linkError ≠ .trackHalt ∧ FaultFlag.linkError ≠ .railLow ∧
      FaultFlag.linkError ≠ .eyeBlocked) := by decide

/-- The numbers of the flags are those of Table 9-6. -/
theorem test_flag_positions (f : FaultFlag) : f.number.val = FlagPosition f := by cases f <;> rfl

theorem test_hyp_NoticesAreOfferedAndFlagsOccur :
    let masked := withLink { Link.reset .reset .pin with mask := 0x7F }
    let room := withLink { Link.reset .reset .pin with notices := List.replicate 31 (.rail .low) }
    let full := withLink { Link.reset .reset .pin with notices := List.replicate 32 (.rail .low) }
    let n : Notice := .fault .encLost
    masked.link.mask.getLsbD n.position = false ∧ (masked.flag .encLost).set = false ∧
    (room.link.mask.getLsbD n.position = true ∧ room.link.notices.length < 32 ∧ (room.flag .encLost).set = false) ∧
    (full.link.mask.getLsbD n.position = true ∧ 32 ≤ full.link.notices.length ∧ (full.flag .encLost).set = false) ∧
    ((full.putFlag .noticeDrop ⟨true, true⟩).flag .noticeDrop).set = true ∧
    (withLink { full.link with mask := 0x7F }).link.mask.getLsbD 7 = false ∧
    (withLink { full.link with tx := .sending [1] .nothing 0 }).link.tx ≠ .free ∧
    (withLink { full.link with slot := some aReply }).link.slot ≠ none ∧
    ((full.flag .noticeDrop).set = false ∧ full.link.mask.getLsbD 7 = true ∧ full.link.tx = .free ∧
      full.link.slot = none) ∧
    ((full.putFlag .encLost ⟨true, true⟩).flag .encLost).set = true ∧
    FaultFlag.railLow ≠ .encLost ∧ FaultFlag.railLow ≠ .noticeDrop := by decide

theorem test_hyp_SetLinkStoresTheSettingsWithItsReply : State.reset.linkReady ∧ 7 < (8 : Byte).toNat ∧
    3 < (4 : Byte).toNat := by decide

theorem test_hyp_SetNoticesSetsTheMask : State.reset.linkReady ∧
    (withLink { Link.reset .reset .pin with mask := 0xBF }).link.mask.getLsbD (Notice.motion .stopped 0).position =
      false ∧
    State.reset.link.tx = .free ∧ State.reset.link.slot = none ∧
    State.reset.link.notices = [.restart .powerOn] := by decide

theorem test_hyp_RequestsWaitAndOverrun :
    let f : Frame := ⟨0x01, 7, []⟩
    let waits := withLink { Link.reset .reset .pin with hold := true, queue := [f] }
    let full := withLink { Link.reset .reset .pin with slot := some aReply, queue := [f, f] }
    (Instr.ident 7 []).frame? = some f ∧ waits.link.hold = true ∧ waits.link.queue.length < 2 ∧
    full.link.slot ≠ none ∧ 2 ≤ full.link.queue.length := by decide

theorem test_hyp_UnknownKindAndWrongSizeAreAnswered : State.reset.linkReady ∧
    (Instr.unknownKind 0x2C 7 []).frame? = some ⟨0x2C, 7, []⟩ ∧ RequestKind.ofCode? 0x2C = none ∧
    (Instr.setHold 7 [0]).frame? = some ⟨0x13, 7, [0]⟩ ∧ RequestKind.ofCode? 0x13 = some .setHold ∧
    [(0 : Byte)].length ≠ RequestKind.setHold.size := by decide

theorem test_hyp_TransmitterTakesReplyThenNotice :
    let l := Link.reset .reset .pin
    let f : Frame := ⟨0x01, 7, []⟩
    (withLink { l with slot := some aReply }).link.queue = [] ∧
    (withLink { l with slot := some aReply, queue := [f] }).link.hold = false ∧
    (withLink { l with slot := some aReply, queue := [f], hold := true }).link.hold = true ∧
    (withLink l).link.tx = .free ∧ (withLink l).link.slot = none ∧ (withLink l).link.notices = [.restart .pin] ∧
    (withLink { l with notices := [] }).link.notices = [] ∧
    (withLink { l with tx := .sending [1] .nothing 0 }).link.tx = .sending [1] .nothing 0 ∧
    (withLink { l with tx := .sending [1] (.settings .reset) 0 }).link.tx = .sending [1] (.settings .reset) 0 ∧
    ([(0, .done), (15, .missed), (1, .cut), (2, .cancelled)] : List (Fin 16 × TargetOutcome)).length ≤ 4 := by
  decide

/-- The bits of a one-byte frame at 9600 baud under EVEN and NONE that the clauses on TXD name: the start bit, the first and
the last data bit, the bit behind them, the last bit, and the line behind the frame. -/
theorem test_hyp_TxdLevels :
    [0, 105, 834, 938, 1042, 1146].map (fun e => e * 9600 / 1000000) = [0, 1, 8, 9, 10, 11] ∧
    (List.range 11).all (fun bit => ([0xA5] : List Byte)[bit / 11]? == some 0xA5) = true ∧
    [(0xA5 : Byte)].length * 11 ≤ 11 ∧ [(0xA5 : Byte)].length * 10 ≤ 10 := by decide

theorem test_hyp_CharactersBuildAFrame :
    (withLink { Link.reset .reset .pin with rx := .hunt }).link.rx = .hunt ∧ State.reset.link.rx = .quiet 0 ∧
    ¬ HasError State.reset 0xA5 .low .high ∧ HasError State.reset 0xA5 .high .high ∧
    HasError State.reset 0xA5 .low (.low 0) ∧ ¬ HasError State.reset 3 .low .high ∧
    ([(0x02 : Byte), 1, 2] ++ [3] = 0x02 :: [1, 2, 3]) ∧ 2 ≤ (0x02 : Byte).toNat ∧ (0xCA : Byte).toNat ≤ 202 ∧
    [(1 : Byte), 2, 3].length < (0x02 : Byte).toNat + 2 := by
  unfold HasError
  decide

theorem test_hyp_FrameErrorDropsTheFrame :
    HasError State.reset 1 .low .high ∧ HasError State.reset 1 .high (.low 5000) ∧ ¬ HasError State.reset 1 .high .high ∧
    ¬ HasError State.reset 203 .high .high ∧ ¬ HasError State.reset 0 .low .high ∧
    (withLink { Link.reset .reset .pin with rx := .receive [] 0 }).link.rx = .receive [] 0 ∧
    (1 : Byte).toNat < 2 ∧ 202 < (203 : Byte).toNat ∧
    (withLink { Link.reset .reset .pin with rx := .receive (2 :: [1, 7] ++ [0]) 0 }).link.rx =
      .receive (2 :: [1, 7] ++ [0]) 0 ∧
    [(1 : Byte), 7].length = (2 : Byte).toNat ∧ crc16 (2 :: [1, 7]) ≠ (0 : Byte) ++ (0 : Byte) := by
  unfold HasError
  decide

theorem test_hyp_FrameCompleteAcceptsTheFrame :
    let f : Frame := ⟨1, 7, []⟩
    f.fits = true ∧ (⟨1, 7, List.replicate 200 0⟩ : Frame).fits = true ∧
    f.bytes = 0xA5 :: ((f.bytes.drop 1).take 4 ++ [f.bytes.getD 5 0]) ∧
    (withLink { Link.reset .reset .pin with rx := .receive ((f.bytes.drop 1).take 4) 0 }).link.rx =
      .receive ((f.bytes.drop 1).take 4) 0 := by decide

/-- Under EVEN, ODD and NONE there is a parity bit for every byte with which no character has an error. -/
theorem test_hyp_FrameReceivedByteByByteIsAccepted :
    (⟨1, 7, List.replicate 200 0⟩ : Frame).fits = true ∧
    (withLink { Link.reset .reset .pin with rx := .hunt }).link.rx = .hunt ∧
    ∀ p : Parity, ∀ b : Byte, ¬ HasError (withLink { Link.reset ⟨.b9600, p⟩ .pin with rx := .hunt }) b
      (p.levelFor b) .high := by
  refine ⟨by decide, by decide, ?_⟩
  intro p b h
  rcases h with h | ⟨h, hs⟩ | ⟨h, hs⟩
  · exact h rfl
  · have hp : p = .even := h
    subst hp
    rw [Parity.levelFor, Parity.bit, Option.getD_some, bitLevel, highBits] at hs
    by_cases ho : (List.range 8).countP (fun i => b.getLsbD i) % 2 = 1
    · simp [ho] at hs; omega
    · simp [ho] at hs
  · have hp : p = .odd := h
    subst hp
    rw [Parity.levelFor, Parity.bit, Option.getD_some, bitLevel, highBits] at hs
    by_cases ho : (List.range 8).countP (fun i => b.getLsbD i) % 2 = 0
    · simp [ho] at hs; omega
    · simp [ho] at hs

theorem test_hyp_GapAndIdleTimersReturnToHunt :
    (withLink { Link.reset .reset .pin with rx := .receive [5] 3001 }).link.rx = .receive [5] 3001 ∧
    (withLink { Link.reset .reset .pin with rx := .quiet 3000 }).link.rx = .quiet 3000 ∧
    State.reset.pins.rxd = .idle ∧ RxLine.low 1 ≠ .idle ∧ RxLine.busy ≠ .idle ∧
    (withLink { Link.reset .reset .pin with rx := .hunt }).link.rx = .hunt := by decide

theorem test_hyp_ArmChecksThenActivatesTheEnabledLanes :
    (halted.linkReady ∧ halted.ctrl.line ≠ .config) ∧
    ((withBelt (belt .lost .stopped true)).linkReady ∧ (withBelt (belt .lost .stopped true)).ctrl.line = .config ∧
      (withBelt (belt .lost .stopped true)).belt.source = .lost) ∧
    (State.reset.ctrl.line = .config ∧ State.reset.belt.source ≠ .lost ∧
      ∀ l : Fin 8, (State.reset.lane l).cfg.enabled = false) ∧
    ((withLane .off none 0).linkReady ∧ (withLane .off none 0).ctrl.line = .config ∧
      (withLane .off none 0).belt.source ≠ .lost ∧ ((withLane .off none 0).lane 0).cfg.enabled = true) := by decide

theorem test_hyp_DisarmEmptiesTheLine : (State.reset.linkReady ∧ State.reset.ctrl.line = .config) ∧
    (inLine .armed).linkReady ∧ (inLine .armed).ctrl.line ≠ .config ∧ halted.ctrl.line ≠ .config := by decide

theorem test_hyp_HaltingSourceEventsHaltAnArmedLine :
    (inLine .armed).ctrl.line = .armed ∧ (inLine .armed).belt.run = false ∧
    ({ inLine .armed with belt := belt .encoder .stopped true }).ctrl.line = .armed ∧
    ({ inLine .armed with belt := belt .encoder .stopped true }).belt.run = true ∧
    halted.ctrl.line ≠ .armed := by decide

theorem test_hyp_SetLineChecksStateThenRanges :
    ((inLine .armed).linkReady ∧ LineParams.reset.payload.length = 15 ∧ (inLine .armed).ctrl.line ≠ .config) ∧
    (State.reset.linkReady ∧ State.reset.ctrl.line = .config ∧ 3 < (4 : Byte).toNat ∧ 2 < (3 : Byte).toNat ∧
      1000 < (1001 : Half).toNat ∧ (9 : Half).toNat < 10 ∧ 5000 < (5001 : Half).toNat ∧
      200000 < (200001 : Pos).toNat ∧ (19 : Half).toNat < 20) ∧
    (⟨.timed, .activeLow, 255, 1000, 1, 5000, 200000, 20⟩ : LineParams).wf ∧
    (⟨.quadrature, .activeHigh, 1, 1, 1000, 10, 1, 1000⟩ : LineParams).wf := by decide

theorem test_hyp_SetLineNewModeRestartsCounting :
    let s := withBelt { belt .lost .stopped true with run := true }
    s.linkReady ∧ s.ctrl.line = .config ∧ (⟨.timed, .activeLow, 255, 1000, 1, 5000, 200000, 20⟩ : LineParams).wf ∧
    s.handedWf ∧ s.noneCarrying ∧ EncMode.timed ≠ s.belt.par.mode := by decide

/-- Nothing due one microsecond before each value, and one effect due at it. -/
theorem test_hyp_SetLineSameModeKeepsTheBelt :
    let b := { belt (.confirming ⟨.estimate, 3, 1000⟩) .forward true with
      par := ⟨.quadrature, .activeHigh, 1, 1, 1, 10, 1, 20⟩,
      runFiltered := .high, limitTimer := some 9999, stopTimer := some 999, lossTimer := some 999,
      silenceTimer := some 999 }
    let s := withBelt b
    (s.linkReady ∧ s.ctrl.line = .config ∧ b.par.wf ∧ b.par.mode = s.belt.par.mode) ∧
    (∀ e, ¬ LineDue b e) ∧
    (LineDue { b with runFiltered := .low } .run ∧ ∀ e, LineDue { b with runFiltered := .low } e → e = .run) ∧
    (LineDue { b with stopTimer := some 1000 } .stop ∧ ∀ e, LineDue { b with stopTimer := some 1000 } e → e = .stop) ∧
    (LineDue { b with lossTimer := some 1000 } .loss ∧ ∀ e, LineDue { b with lossTimer := some 1000 } e → e = .loss) ∧
    (LineDue { b with limitTimer := some 10000 } .limit ∧
      ∀ e, LineDue { b with limitTimer := some 10000 } e → e = .limit) ∧
    (LineDue { b with source := .confirming ⟨.estimate, 3, 1001⟩ } .gap ∧
      ∀ e, LineDue { b with source := .confirming ⟨.estimate, 3, 1001⟩ } e → e = .gap) ∧
    (LineDue { b with silenceTimer := some 1000 } .silence ∧
      ∀ e, LineDue { b with silenceTimer := some 1000 } e → e = .silence) := by
  refine ⟨by decide, ?_, ?_, ?_, ?_, ?_, ?_, ?_⟩
  · intro e
    cases e <;> simp [LineDue, RunThrough, belt]
  all_goals
    refine ⟨by simp [LineDue, RunThrough, belt], fun e => ?_⟩
    cases e <;> simp [LineDue, RunThrough, belt]

theorem test_hyp_SetPositionHandsOneUpdate : ((inLine .armed).linkReady ∧ (inLine .armed).ctrl.line ≠ .config) ∧
    State.reset.linkReady ∧ State.reset.ctrl.line = .config ∧ State.reset.lineWf := by decide

theorem test_hyp_QuadratureSampleCountsOneStep :
    (beltIn .quadrature none).encRef = none ∧ (beltIn .quadrature (some ⟨.low, .low⟩)).encRef = some ⟨.low, .low⟩ ∧
    ((⟨.low, .low⟩, ⟨.high, .low⟩) : EncPair × EncPair) ∈ ForwardSteps ∧
    ((⟨.low, .high⟩, ⟨.low, .low⟩) : EncPair × EncPair) ∈ ForwardSteps ∧ Level.low ≠ .high ∧
    (beltIn .timed none).par.mode = .timed := by decide

theorem test_hyp_PulseDirSampleCountsRisingEncA :
    (beltIn .pulseDir (some ⟨.low, .low⟩)).par.mode = .pulseDir ∧
    (beltIn .pulseDir (some ⟨.low, .low⟩)).encRef = some ⟨.low, .low⟩ ∧
    (beltIn .pulseDir (some ⟨.high, .low⟩)).encRef = some ⟨.high, .low⟩ ∧ (beltIn .pulseDir none).encRef = none ∧
    (beltIn .timed none).par.mode = .timed := by decide

/-- An accumulator one count below the threshold, and one that is not, in each motion state. -/
theorem test_hyp_AccumulatorDecidesTheMotion :
    let beltAt (m : Motion) (acc : Int) : Belt := { Belt.reset with motion := m, acc := acc }
    ∀ b ∈ [beltAt .stopped 7, beltAt .stopped (-7), beltAt .stopped 0, beltAt .forward 7, beltAt .forward 0, beltAt .reverse 7,
        beltAt .reverse 0],
      b.accWf ∧ 1 ≤ b.par.reversal := by decide

theorem test_hyp_CountsAreTimedForTheSpeed :
    let b := { Belt.reset with last := some ⟨.forward, 5⟩, history := [1, 2, 3, 4, 5, 6, 7, 8] }
    b.last = some ⟨.forward, 5⟩ ∧ Dir.forward ≠ .reverse ∧ ¬ b.history.length < 8 ∧ Belt.reset.last = none ∧
    0 < [1].sum ∧ (belt (.confirming ⟨.estimate, 1, 0⟩) .forward true).motion = .forward ∧
    (belt (.confirming ⟨.lost, 1, 0⟩) .reverse true).source = .confirming ⟨.lost, 1, 0⟩ ∧
    (belt .timed .forward true).source = .timed ∧ (belt .estimate .forward true).source = .estimate ∧
    (belt .encoder .reverse true).motion ≠ .stopped := by decide

theorem test_hyp_FourCountsConfirmTheEncoder :
    (withBelt (belt .estimate .forward true)).belt.source = .estimate ∧
    (withBelt (belt .lost .stopped true)).belt.source = .lost ∧
    (withBelt (belt (.confirming ⟨.lost, 2, 0⟩) .stopped true)).belt.source = .confirming ⟨.lost, 2, 0⟩ ∧
    (withBelt (belt (.confirming ⟨.lost, 3, 0⟩) .stopped true)).belt.source = .confirming ⟨.lost, 3, 0⟩ ∧
    (withBelt (belt .encoder .stopped false)).belt.source = .encoder ∧
    (∀ c ∈ [(⟨.lost, 2, 50000⟩ : Confirmation), ⟨.lost, 3, 50000⟩], c.gap ≤ Belt.reset.par.lossTime * 1000) ∧
    (∀ c ∈ [(⟨.estimate, 3, 50001⟩ : Confirmation), ⟨.lost, 1, 50001⟩], Belt.reset.par.lossTime * 1000 < c.gap) ∧
    (after .confirmingGap (withBelt (belt (.confirming ⟨.estimate, 3, 50001⟩) .forward true))).belt.source = .estimate ∧
    (after .confirmingGap (withBelt (belt (.confirming ⟨.lost, 3, 50001⟩) .forward true))).belt.source = .lost := by
  decide

/-- The part with a belt in QUADRATURE, its reference and the present pair of its inputs one step apart. -/
def withStep (source : Source) : State :=
  { withBelt { belt source .forward true with encRef := some ⟨.low, .low⟩ } with
    pins := { State.reset.pins with enc := ⟨.high, .low⟩ } }

/-- A third further count within the loss time of 50 ms enters ENCODER; one later finds the CONFIRMING failed and is the first
count of another (R23, R24). -/
theorem test_count_within_and_past_the_loss_time :
    (after (.quadratureCount .high .low) (withStep (.confirming ⟨.estimate, 3, 50000⟩))).belt.source = .encoder ∧
    (after (.quadratureCount .high .low) (withStep (.confirming ⟨.estimate, 3, 50001⟩))).belt.source =
      .confirming ⟨.estimate, 1, 0⟩ ∧
    (after (.quadratureCount .high .low) (withStep (.confirming ⟨.lost, 3, 50001⟩))).belt.source =
      .confirming ⟨.lost, 1, 0⟩ := by decide

/-- The same in the microsecond that brings the gap there (R23, R24). -/
theorem test_tick_count_past_the_loss_time :
    (withStep (.confirming ⟨.estimate, 3, 49999⟩)).tick.belt.source = .encoder ∧
    (withStep (.confirming ⟨.estimate, 3, 50000⟩)).tick.belt.source = .confirming ⟨.estimate, 1, 0⟩ := by decide

theorem test_hyp_GeneratedStepsMoveForward :
    let timed : Belt := { belt .timed .stopped true with gen := some 1000000, acc := 7 }
    (timed.source = .timed ∧ timed.gen = some 1000000 ∧ timed.motion = .stopped ∧
      timed.acc + 1 = (timed.par.reversal : Int)) ∧
    ({ timed with acc := 6 } : Belt).acc + 1 < (timed.par.reversal : Int) ∧ ({ timed with motion := .forward }).motion = .forward ∧
    ({ belt .estimate .forward true with gen := some 1000000 }).gen = some 1000000 ∧
    (belt .estimate .forward true).acc = 0 ∧ 0 ≤ ({ belt .estimate .forward true with acc := 7 }).acc ∧
    (belt .encoder .stopped false).source ≠ .timed ∧
    (belt .timed .stopped false).gen = none ∧ (belt .encoder .stopped false).source ≠ .estimate := by decide

theorem test_hyp_RunChangeActsByItsSource :
    (RunThrough .high .activeHigh = true ∧ RunThrough .high .activeLow = false) ∧
    (∀ x ∈ [Source.encoder, .timed, .lost, .confirming ⟨.lost, 1, 0⟩], (belt x .stopped false).run = false ∧
      (belt x .stopped false).source = x) ∧
    (∀ x ∈ [Source.encoder, .timed, .lost, .estimate, .confirming ⟨.estimate, 3, 0⟩],
      (belt x .stopped true).run = true ∧ (belt x .stopped true).source = x) := by decide

theorem test_hyp_StopTimerExpiryStopsTheBelt :
    let b := { belt .encoder .forward false with stopTimer := some 100000 }
    let q : List Action :=
      [⟨.opened, 500, 700, [contribution 52 0 500 700]⟩, ⟨.queued, 900, 1000, [contribution 52 1 900 1000]⟩]
    let s := ((withBelt b).putValve 0 { Valve.reset with state := .hold, out := true }).putQueue 0 q
    s.belt.stopTimer = some 100000 ∧ s.belt.motion ≠ .stopped ∧ s.handedWf ∧ s.belt.motion = .forward ∧
    (s.valve 0).carrying = true ∧ (s.valve 1).carrying = false ∧ openContribs (s.queue 0) ≠ [] ∧
    ((s.queue 0).filter (fun a => a.state == .queued)) ≠ [] ∧ Belt.reset.stopTimer = none ∧
    (let r := { b with motion := .reverse }
     r.stopTimer = some 100000 ∧ r.motion ≠ .stopped ∧ (withBelt r).handedWf ∧ r.motion = .reverse) ∧
    Motion.reverse ≠ .forward ∧ Motion.stopped ≠ .forward := by decide

theorem test_hyp_LossTimerExpiryEstimatesOrLoses :
    let b := { belt .encoder .forward true with lossTimer := some 50000, history := [1000000] }
    (b.lossTimer = some 50000 ∧ b.motion = .forward ∧ b.speed = 1) ∧
    (({ b with history := [] }).lossTimer = some 50000 ∧ ({ b with history := [] }).speed = 0) ∧
    ({ b with motion := .reverse }).motion ≠ .forward ∧ Belt.reset.lossTimer = none := by decide

/-- A loss in ARMED with the belt in REVERSE: the FAULT of ENC_LOST, the source change with its cause, the notices of the halt,
the motion change, in this order (R17, R26, R149, R160). -/
theorem test_notices_of_a_loss :
    let s := withBelt { belt .encoder .reverse true with lossTimer := some 50000, position := 7 }
    (after .lossTimerExpiry { s with ctrl := { s.ctrl with line := .armed } }).link.notices =
      s.link.notices ++ [.fault .encLost, .source .lost (some .loss), .fault .trackHalt,
        .lineState (.halted .loss) 0 0, .motion .stopped 7] := by decide

/-- A change that is one, and one that is none, of the source and of the motion state. -/
theorem test_hyp_Hands :
    (withBelt (belt .estimate .forward true)).belt.source.kind ≠ .encoder ∧
    (withBelt (belt .encoder .forward true)).belt.source.kind = .encoder ∧
    (withBelt (belt .lost .stopped true)).belt.motion ≠ .forward ∧
    (withBelt (belt .lost .stopped true)).belt.motion = .stopped := by decide

theorem test_hyp_LimitGapAndSilenceEndTheEstimate :
    let est := { belt .estimate .forward true with limitTimer := some 500000 }
    let conf (o : Origin) (m : Motion) := belt (.confirming ⟨o, 3, 50001⟩) m true
    (est.limitTimer = some 500000 ∧ est.source = .estimate) ∧
    (({ conf .estimate .forward with limitTimer := some 500000 }).limitTimer = some 500000 ∧
      (conf .estimate .forward).source = .confirming ⟨.estimate, 3, 50001⟩) ∧ Belt.reset.limitTimer = none ∧
    (({ conf .estimate .forward with limitExpired := true }).limitExpired = true) ∧
    ((conf .estimate .reverse).limitExpired = false ∧ (conf .estimate .reverse).motion = .reverse) ∧
    ((conf .estimate .forward).limitExpired = false ∧ (conf .estimate .forward).motion = .forward) ∧
    ((conf .lost .stopped).restart = false) ∧
    (({ conf .lost .stopped with restart := true }).restart = true ∧ (conf .lost .stopped).run = true) ∧
    (∀ c, Belt.reset.source ≠ .confirming c) ∧
    (({ belt .lost .stopped true with silenceTimer := some 50000 }).silenceTimer = some 50000) ∧
    Belt.reset.silenceTimer = none :=
  ⟨by decide, by decide, by decide, by decide, by decide, by decide, by decide, by decide,
   (fun _ h => Source.noConfusion h), by decide, by decide⟩

/-! Lanes and items -/

/-- Lane parameters at the ends of their ranges, with four targets. -/
def laneEnds : LaneParams :=
  ⟨true, .high, false, 10000, 65535, 65535, 1048575, 65536, 1048575, 0x8001,
   [⟨0, 0x8000, .itemEnd 0x7FFF⟩, ⟨15, 0, .fixed 1⟩, ⟨15, 0, .fixed 65535⟩, ⟨0, 0, .itemEnd 0⟩]⟩

theorem test_hyp_SetLaneTakesAllParametersOrNone :
    (State.reset.linkReady ∧ (List.replicate 49 (0xFF : Byte)).length = 49 ∧
      parseLane (List.replicate 49 0xFF) = none) ∧
    laneEnds.wf ∧ LaneParams.reset.wf ∧
    8 ≤ num8 (8 :: List.replicate 48 0) 0 ∧
    (withLane (.occupied (capture 52)) none 0).linkReady ∧
    ((withLane (.occupied (capture 52)) none 0).lane 0).state = .occupied (capture 52) ∧
    (((withLane (.occupied (capture 52)) none 0).lane 0).cfg.enabled && !LaneParams.reset.enabled) = true := by decide

/-- SET_LANE with one field of its first default target wrong: valve 16, end mode 3, a span of 0, a valve outside the set. -/
theorem test_hyp_SetLaneBadDefault :
    let p := laneEnds.payload 0
    (0 < num8 (p.set 25 16) 24 ∧ BadPlaceAt (p.set 25 16) 25) ∧ BadPlaceAt (p.set 28 3) 25 ∧
    BadPlaceAt (((p.set 28 2).set 29 0).set 30 0) 25 ∧
    (half (p.set 25 1) 22).getLsbD (num8 (p.set 25 1) 25) = false ∧
    parseLane (p.set 25 1) = none ∧ parseLane p ≠ none := by
  unfold BadPlaceAt
  decide

theorem test_hyp_EyeRawChangeOpensOrDropsACandidate :
    ((withLane .clear none 1).lane 0).confirmed = .high ∧ ((withLane .clear none 1).lane 0).candidate = none ∧
    0 < ((withLane .clear none 1).lane 0).cfg.debounce ∧ ((withLane .clear none 0).lane 0).cfg.debounce = 0 ∧
    ((withLane .clear (some (cand .low)) 1).lane 0).candidate = some (cand .low) ∧
    Level.low ≠ ((withLane .clear (some (cand .low)) 1).lane 0).confirmed := by decide

/-- A record ENTERING, with its lane's trailing candidate 4 counts behind the leading edge: the min length. -/
def trailing : Candidate := ⟨.high, 200004, false, 0, 0⟩

/-- The part with lane 0 OCCUPIED by record 52 and the trailing candidate. -/
def closingLane : State :=
  ({ inLine .armed with table := ⟨[record 52 .entering], 60, 200004, .forward⟩ }).putLane 0
    { Lane.reset .low with cfg := { LaneParams.reset with enabled := true },
                           candidate := some trailing, state := .occupied (capture 52) }

theorem test_hyp_ConfirmedEdgeMakesAndClosesItems :
    ((withLane .off none 0).lane 0).candidate = none ∧
    (∀ st ∈ [LaneState.off, .clear, .blocked .length, .occupied (capture 52)],
      ((withLane st (some (cand .low)) 0).lane 0).state = st ∧
      (cand .low).level = ((withLane st (some (cand .low)) 0).lane 0).cfg.present) ∧
    (withLane .clear (some (cand .low)) 0).lanes.motion ≠ .reverse ∧
    (withLane .clear (some (cand .low)) 0).table.records.length < 64 ∧
    ({ withLane .clear (some (cand .low)) 0 with
        table := ⟨List.replicate 64 (record 1 .entering), 1, 0, .stopped⟩ }).table.records.length = 64 ∧
    (cand .high).level ≠ ((withLane .clear (some (cand .high)) 0).lane 0).cfg.present ∧
    ((closingLane.lane 0).state = .occupied (capture 52) ∧ (closingLane.lane 0).candidate = some trailing ∧
      trailing.level ≠ (closingLane.lane 0).cfg.present ∧
      (trailing.captured - (capture 52).leading).toNat = (capture 52).minLength ∧
      closingLane.record? 52 = some (record 52 .entering) ∧
      reached closingLane.table.position (record 52 .entering).horizon = false ∧
      reached closingLane.table.position (trailing.captured + 20000) = false) ∧
    (reached 210000 (record 52 .entering).horizon = true ∧ reached 220004 (trailing.captured + 20000) = true) ∧
    (reached 203999 ((capture 52).leading + 4000) = false ∧ reached 204000 ((capture 52).leading + 4000) = true) ∧
    (allLanes.filter (fun l => (closingLane.lane l).isOccupied) = [0]) ∧
    (withRecord (record 52 (.awaiting closing))).record? 52 = some (record 52 (.awaiting closing)) ∧
    (record 52 (.awaiting closing)).progress ≠ .entering := by decide

/-- An item closed at its max length (Table 2-5): its trailing point is leading plus max length, the lane BLOCKED. -/
theorem test_close_by_length :
    let t := State.closeByLength ⟨204000, .encoder, .forward, .encoder, 1000⟩ closingLane 0
    (t.record? 52).map (fun r => (r.blocked, r.progress.closing?)) = some (true, some ⟨204000, 4000, 224000⟩) ∧
    (t.lane 0).state = .blocked .length ∧ (t.flag .eyeBlocked).set = true := by decide

/-- An absent edge with the position past the max-length point that no update reported: the length is kept, the blocked
mark clear (log 27). -/
theorem test_length_above_max :
    let s := closingLane.putLane 0 { closingLane.lane 0 with candidate := some { trailing with captured := 204500 } }
    ((after (.debounceExpiry 0) s).record? 52).map (fun r => (r.blocked, r.progress.closing?)) =
      some (false, some ⟨204500, 4500, 224500⟩) := by decide

theorem test_hyp_NewRecordTakesTheFirstFreeTag :
    let t : Table := ⟨[record 65535 .entering, record 1 .entering], 65535, 0, .stopped⟩
    t.wf ∧ t.records.length < 64 := by decide

theorem test_hyp_VerdictFirstChecksLineRecordAndFields :
    let p := verdictPayload 52 []
    let held (x : Progress) := withRecord (record 52 x)
    (State.reset.linkReady ∧ p.length = 27 ∧ State.reset.ctrl.line ≠ .armed) ∧
    ((inLine .armed).ctrl.line = .armed ∧ (inLine .armed).record? (num16 p 0) = none) ∧
    (held .entering).record? (num16 p 0) = some (record 52 .entering) ∧
    (held (.decided closing .cancel [])).record? 52 = some (record 52 (.decided closing .cancel [])) ∧
    (held (.defaulted closing [])).record? 52 = some (record 52 (.defaulted closing [])) ∧
    (held (.awaiting closing)).linkReady ∧ (held (.awaiting closing)).ctrl.line = .armed ∧
    4 < num8 (putHalf 52 ++ [5] ++ List.replicate 24 0) 2 ∧
    (num8 (putHalf 52 ++ [4] ++ List.replicate 24 0) 2 = 4 ∧
      num8 (putHalf 52 ++ [4] ++ List.replicate 24 0) 6 ≠ 1 ∧
      num8 (putHalf 52 ++ [4] ++ List.replicate 24 0) 6 ≠ 2) := by decide

/-- The verdict of Table 9-22 for the record of section 4.4; and one named to fail each step of Table 4-2. -/
theorem test_hyp_VerdictDecidesTheRecordOrChangesNothing :
    let s := withRecord (record 52 (.awaiting closing))
    let r := record 52 (.awaiting closing)
    let ps := places.map (s.place r closing)
    let listed (t : Placed) : Bool :=
      r.snapshot.valveSet.getLsbD t.valve.val && (s.valve t.valve).cfg.mode != .off
    let ordered (t : Placed) : Bool := comesAfter t.closeAt t.openAt && comesAfter closing.exitAt t.closeAt
    (s.linkReady ∧ s.ctrl.line = .armed ∧ s.sched.wf ∧ places.length ≤ 4 ∧ (∀ t ∈ places, t.wf = true) ∧
      s.record? (52 : Half).toNat = some r ∧ r.progress = .awaiting closing) ∧
    (ps.all listed = true ∧ ps.all ordered = true ∧
      ps.all (fun t => !reached s.table.position t.openAt) = true ∧
      ps.all (fun t => (s.valve t.valve).state != .disabled) = true) ∧
    listed (s.place r closing ⟨3, 0, .fixed 1⟩) = false ∧
    (((s.putValve 4 { s.valve 4 with state := .disabled }).valve 4).state != .disabled) = false ∧
    ordered (s.place r closing ⟨4, 0, .fixed 65535⟩) = false ∧
    reached ({ s with table := { s.table with position := 229900 } }).table.position 229900 = true := by decide

/-- The three ends of an admission: admitted; a CONFLICT with an OPEN action; no room beside 128 actions. -/
theorem test_hyp_admission_ends :
    let q : Request := ⟨0, contribution 9 0 500 600⟩
    let opened : Schedule := { Schedule.reset with
      queues := Schedule.reset.queues.set 0 [⟨.opened, 501, 700, [contribution 8 0 501 700]⟩] }
    let full : Schedule := { Schedule.reset with
      queues := Schedule.reset.queues.set 1 (List.replicate 128 (.ofContribution (contribution 8 0 1 2))) }
    (match Schedule.reset.takeAll (fun _ => 0) [q] with
     | .admitted c => c.slotsInUse
     | .noRoom => 0
     | .conflict => 0) = 1 ∧
    opened.takeAll (fun _ => 0) [q] = .conflict ∧ full.takeAll (fun _ => 0) [q] = .noRoom := by decide

/-- A record with targets: one in an OPEN action, one in a QUEUED action that another item shares. -/
theorem test_hyp_CancelWithdrawsWhatHasNotBegun :
    let held (x : Progress) := withRecord (record 52 x)
    let shared := ((held (.decided closing .verdict [⟨4, 500, 700, .active⟩, ⟨4, 900, 1000, .pending⟩])).putQueue 4
      [⟨.opened, 500, 700, [contribution 52 0 500 700]⟩,
       ⟨.queued, 900, 1100, [contribution 52 1 900 1000, contribution 53 0 950 1100]⟩])
    State.reset.ctrl.line ≠ .armed ∧ (inLine .armed).record? 52 = none ∧
    (held .entering).record? 52 = some (record 52 .entering) ∧
    (held (.awaiting closing)).record? 52 = some (record 52 (.awaiting closing)) ∧
    ((held (.defaulted closing [])).linkReady ∧ (held (.defaulted closing [])).ctrl.line = .armed ∧
      (record 52 (.defaulted closing [])).isDecided = true) ∧
    (shared.linkReady ∧ shared.ctrl.line = .armed ∧
      queuedOfTag 52 (shared.queue 4) = [contribution 52 1 900 1000] ∧
      openOfTag 52 (shared.queue 4) = [contribution 52 0 500 700]) ∧
    replyOf (after (.cancel 7 [0, 52]) shared) = [0, 1, 1, 2] ∧
    (after (.cancel 7 [0, 52]) shared).queue 4 =
      [⟨.opened, 500, 700, [contribution 52 0 500 700]⟩, ⟨.queued, 950, 1100, [contribution 53 0 950 1100]⟩] ∧
    ((after (.cancel 7 [0, 52]) shared).record? 52).map (fun r => r.progress.targets.map RecordTarget.outcome) =
      some [.active, .cancelled] := by decide

theorem test_hyp_QueriesAnswerAndChangeNothing :
    let r := record 52 (.decided closing .verdict [⟨4, 500, 700, .active⟩, ⟨4, 900, 1000, .pending⟩])
    let s := { withRecord r with table := ⟨[record 51 .entering, r], 60, 204000, .forward⟩ }
    s.linkReady ∧ (52 : Half) ≠ 0 ∧ State.reset.record? 52 = none ∧
    s.table.records = [record 51 .entering] ++ r :: [] ∧ (∀ x ∈ [record 51 .entering], x.tag ≠ (52 : Half).toNat) ∧
    r.tag = (52 : Half).toNat ∧ 16 ≤ (16 : Byte).toNat ∧ r.progress.targets.length ≤ 4 ∧
    (∀ a ∈ (s.putQueue 0 [⟨.opened, 500, 700, [contribution 52 0 500 700]⟩]).queue 0, a.contribs.length ≤ 4) := by decide

theorem test_hyp_HorizonDefaultsAndExitRetires :
    let held (x : Progress) := withRecord (record 52 x)
    ((held .entering).record? 52 = some (record 52 .entering)) ∧
    ((held (.awaiting closing)).record? 52 = some (record 52 (.awaiting closing)) ∧
      reached 209999 (record 52 .entering).horizon = false ∧ reached 210000 (record 52 .entering).horizon = true ∧
      reached 210000 closing.exitAt = false ∧ (record 52 (.awaiting closing)).snapshot.default = []) ∧
    (reached 205000 (record 52 .entering).horizon = false ∧ reached 205000 204000 = true) ∧
    ((held (.decided closing .verdict [])).record? 52 = some (record 52 (.decided closing .verdict [])) ∧
      reached 240799 closing.exitAt = false ∧ reached 240800 closing.exitAt = true) ∧
    (held (.defaulted closing [])).record? 52 = some (record 52 (.defaulted closing [])) ∧
    ((belt .timed .forward true).source = .timed ∧ ({ belt .timed .forward true with gen := some 0 }).gen = some 0 ∧
      (belt .estimate .forward true).source = .estimate) ∧
    Motion.stopped ≠ .forward := by decide

/-- An AWAITING record with the default EJECT of Table 4-4's targets: admitted, kept out by a check, and without room. -/
theorem test_hyp_Defaulted :
    let r : ItemRecord := { record 52 (.awaiting closing) with snapshot := ⟨2000, 0x0030, places⟩ }
    let s := withRecord r
    let ps := places.map (s.place r closing)
    let full : State := s.putQueue 1 (List.replicate 128 (.ofContribution (contribution 8 0 1 2)))
    let opened : State := s.putQueue 4 [⟨.opened, 229901, 230901, [contribution 8 0 229901 230901]⟩]
    let good (w : State) (p : Placed) : Bool :=
      (w.valve p.valve).cfg.mode != .off && (w.valve p.valve).state != .disabled &&
      comesAfter p.closeAt p.openAt && comesAfter closing.exitAt p.closeAt && !reached w.table.position p.openAt
    ps ≠ [] ∧ ps.all (good s) = true ∧
    (match s.admission 52 ps with | .admitted c => c.slotsInUse | .noRoom => 0 | .conflict => 0) = 2 ∧
    full.admission 52 ps = .noRoom ∧ opened.admission 52 ps = .conflict ∧
    ps.all (good (s.putValve 4 { s.valve 4 with state := .disabled })) = false ∧
    ps.all (good { s with table := { s.table with position := 229900 } }) = false ∧
    (((s.checkRecord 210000 52).record? 52).map (fun r => r.progress.targets.map RecordTarget.outcome) =
      some [.pending, .pending]) ∧
    (((full.checkRecord 210000 52).record? 52).map (fun r => r.progress.targets.map RecordTarget.outcome) =
      some [.notScheduled, .notScheduled]) ∧
    ((full.checkRecord 210000 52).flag .schedFull).set = true ∧
    ((s.checkRecord 240800 52).record? 52 = none) := by decide

/-- An admission that starts an action, one that joins, the fifth contribution of a group, an OPEN action that the
contribution comes before, and the 129th action. -/
theorem test_hyp_AdmissionIsAllOrNothing :
    let k : Contribution := contribution 9 0 500 600
    let q : Request := ⟨0, k⟩
    let four : List Action := [⟨.queued, 500, 700, [contribution 1 0 500 700, contribution 2 0 510 600,
      contribution 3 0 520 600, contribution 4 0 530 600]⟩]
    let a : Action := ⟨.opened, 501, 700, [contribution 8 0 501 700]⟩
    let c : Schedule := { Schedule.reset with queues := Schedule.reset.queues.set 0 [a] }
    let most : Schedule := { Schedule.reset with
      queues := Schedule.reset.queues.set 1 (List.replicate 128 (.ofContribution (contribution 8 0 1 2))) }
    let tooMany : Schedule := { Schedule.reset with
      queues := Schedule.reset.queues.set 1 (List.replicate 129 (.ofContribution (contribution 8 0 1 2))) }
    ¬ Conflicts 0 k Schedule.reset.queues[q.valve] ∧
    (¬ Conflicts 0 k [.ofContribution (contribution 8 0 400 500)] ∧
      touches 0 k (.ofContribution (contribution 8 0 400 500)) = true ∧
      touches 0 k (.ofContribution (contribution 8 0 400 499)) = false) ∧
    Conflicts 0 k four ∧ ¬ Conflicts 0 k (four.map (fun b => { b with contribs := b.contribs.take 3 })) ∧
    Conflicts 0 k c.queues[q.valve] ∧ a ∈ c.queues[q.valve] ∧ a.state = .opened ∧
    comesAfter a.openAt q.contribution.openAt = true ∧
    (most.slotsInUse ≤ 128 ∧ 128 < tooMany.slotsInUse) ∧
    (match Schedule.reset.takeAll (fun _ => 0) [q] with
     | .admitted c => c.queues[(0 : Fin 16)] == [.ofContribution k]
     | .noRoom => false
     | .conflict => false) = true ∧
    most.takeAll (fun _ => 0) [q] = .noRoom ∧ (∀ r ∈ [q], r.valve ≠ 1) := by
  unfold Conflicts
  decide

/-- A bridge of two actions whose contributions stand in order: the case of test_bridge_joins. -/
theorem test_hyp_bridge :
    [Action.ofContribution (contribution 60 0 300000 300400), .ofContribution (contribution 61 0 300500 300900)].filter
      (touches 20 (contribution 62 0 300380 300520)) =
      [.ofContribution (contribution 60 0 300000 300400), .ofContribution (contribution 61 0 300500 300900)] ∧
    InOpenOrder (Action.ofContribution (contribution 60 0 300000 300400)).contribs := by
  refine ⟨by decide, fun i d e _ h => ?_⟩
  simp [Action.ofContribution] at h

/-- A contribution that joins one action, and the order of equal open points of one admission (log 28). -/
theorem test_join_one : joinOne 0 (contribution 9 0 450 600) [.ofContribution (contribution 8 0 400 500)] =
      some [⟨.queued, 400, 600, [contribution 8 0 400 500, contribution 9 0 450 600]⟩] ∧
    ((joinOne 0 (contribution 9 0 450 600) []).bind (joinOne 0 (contribution 9 1 450 500))) =
      some [⟨.queued, 450, 600, [contribution 9 0 450 600, contribution 9 1 450 500]⟩] := by decide

theorem test_hyp_HeadExaminationOpensMissesAndEnds :
    let a : Action := .ofContribution (contribution 8 0 500 700)
    let s := withValve .idle false
    (a.state = .queued ∧ reached 499 (a.openAt - BitVec.ofNat 32 (s.advance 0).openBy) = false) ∧
    (reached 500 (a.openAt - BitVec.ofNat 32 (s.advance 0).openBy) = true ∧
      reached 699 (a.closeAt - BitVec.ofNat 32 (s.advance 0).closeBy) = false ∧
      reached 700 (a.closeAt - BitVec.ofNat 32 (s.advance 0).closeBy) = true ∧
      a.contribs.filter (fun k => !reached 699 (k.closeAt - BitVec.ofNat 32 (s.advance 0).closeBy)) ≠ []) ∧
    s.drive.rail = .normal ∧ State.reset.drive.rail = .low ∧ ({ a with state := .opened }).state = .opened ∧
    ((s.valve 0).state = .idle ∧ 0 < (s.valve 0).cfg.pullIn) ∧
    (((s.putValve 0 { s.valve 0 with cfg := { (s.valve 0).cfg with pullIn := 0 } }).valve 0).state = .idle ∧
      ((s.putValve 0 { s.valve 0 with cfg := { (s.valve 0).cfg with pullIn := 0 } }).valve 0).cfg.pullIn = 0) ∧
    ((withValve (.test .pull 5) true).valve 0).state = .test .pull 5 ∧
    ((withValve (.test .hold 5) true).valve 0).state = .test .hold 5 ∧ Motion.reverse ≠ .forward ∧
    ((s.valve 1).cfg.mode = .off ∧ (s.valve 0).cfg.mode = .activeHigh ∧
      ({ s.valve 0 with cfg := { (s.valve 0).cfg with mode := .activeLow } }).cfg.mode = .activeLow) := by decide

/-! Valves, rail, invariants -/

/-- Valve parameters at the ends of their ranges. -/
def valveEnds : ValveParams := ⟨.activeLow, 1048575, 50000, 50000, 50000, 64, 65535, 2000⟩

theorem test_hyp_SetValveTakesAllParametersOrNone :
    let busy := { withValve .hold true with ctrl := { State.reset.ctrl with line := .armed } }
    (State.reset.linkReady ∧ (16 :: List.replicate 16 (0 : Byte)).length = 17 ∧
      16 ≤ num8 (16 :: List.replicate 16 0) 0) ∧
    (busy.linkReady ∧ busy.ctrl.line ≠ .config ∧ (busy.valve 0).state ≠ .idle ∧ (busy.valve 0).state ≠ .disabled) ∧
    (State.reset.ctrl.line = .config ∧ num8 (List.replicate 17 0) 1 = 0) ∧
    valveEnds.wf ∧ ValveParams.reset.wf ∧
    ((withValve .idle false).ctrl.line = .config ∧ (∀ ph d, ((withValve .idle false).valve 0).state ≠ .test ph d)) ∧
    ((withValve (.test .pull 5) true).linkReady ∧
      ((withValve (.test .pull 5) true).valve 0).state = .test .pull 5) :=
  ⟨by decide, by decide, by decide, by decide, by decide,
   ⟨by decide, fun _ _ h => ValveState.noConfusion h⟩, by decide⟩

theorem test_hyp_SetHoldWaitsForThePeriodStart : State.reset.linkReady ∧ (64 : Byte).toNat ≤ 64 ∧
    16 ≤ (16 : Byte).toNat ∧ 64 < (65 : Byte).toNat ∧ 1 ≤ State.reset.drive.period := by decide

theorem test_hyp_HoldOutputFollowsTheDuty :
    ((withValve .pullIn true).valve 0).state = .pullIn ∧
    ((withValve (.test .pull 5) true).valve 0).state = .test .pull 5 ∧
    (((withValve .hold true).valve 0).state = .hold ∧ ((withValve .hold true).valve 0).out = true ∧
      (withValve .hold true).drive.period * ((withValve .hold true).valve 0).duty / 64 <
        (withValve .hold true).drive.period) ∧
    ((withValve .hold false).valve 0).out = false ∧ 50 ≤ 50 * 64 / 64 ∧
    (((withValve .idle false).valve 0).state ≠ .pullIn ∧ ((withValve .idle false).valve 0).state ≠ .hold ∧
      ∀ ph d, ((withValve .idle false).valve 0).state ≠ .test ph d) :=
  ⟨by decide, by decide, by decide, by decide, by decide, by decide, by decide, fun _ _ h => ValveState.noConfusion h⟩

theorem test_hyp_TestFireChecksThenStartsATest :
    let s := withValve .idle false
    (halted.linkReady ∧ halted.ctrl.line = .halted .gap) ∧ (∀ why, s.ctrl.line ≠ .halted why) ∧
    (s.linkReady ∧ 16 ≤ (16 : Byte).toNat ∧ (s.valve 0).cfg.maxOpen = (200 : Half).toNat ∧
      (s.valve 0).cfg.maxOpen < (201 : Half).toNat ∧ (s.valve 0).cfg.mode ≠ .off ∧ (s.valve 1).cfg.mode = .off ∧
      s.drive.rail = .normal ∧ State.reset.drive.rail = .low ∧ (s.valve 0).state = .idle ∧ s.queue 0 = [] ∧
      0 < (s.valve 0).cfg.pullIn ∧ ((withValve .hold true).valve 0).state ≠ .idle) ∧
    (let z := s.putValve 0 { s.valve 0 with cfg := { (s.valve 0).cfg with pullIn := 0 } }
     z.linkReady ∧ (z.valve 0).cfg.pullIn = 0 ∧ (z.valve 0).state = .idle ∧ z.queue 0 = [] ∧
       ((after (.testFire 1 [0, 0, 200]) z).valve 0).state = .test .hold 200 ∧
       ((after (.testFire 1 [0, 0, 200]) z).valve 0).out = true) ∧
    ((withValve (.test .hold 5) true).valve 0).state = .test .hold 5 :=
  ⟨by decide, (fun _ h => LineState.noConfusion h), by decide, by decide, by decide⟩

theorem test_hyp_EnableAndDisableAValve :
    (withValve .disabled false).linkReady ∧ ((withValve .disabled false).valve 0).state = .disabled ∧
    ((withValve .hold true).valve 0).state ≠ .disabled ∧ 16 ≤ (16 : Byte).toNat := by decide

theorem test_hyp_OvertimeDisablesAndPurges :
    ((withValve .pullIn true).valve 0).state = .pullIn ∧ ((withValve .hold true).valve 0).state = .hold ∧
    ((withValve .idle false).valve 0).state ≠ .pullIn ∧ ((withValve .idle false).valve 0).state ≠ .hold := by decide

theorem test_hyp_RailEntriesCutAndRelease :
    (withValve .hold true).rail.state = .normal ∧ ((withValve .hold true).valve 0).isActive = true ∧
    ((withValve .hold true).valve 1).isActive = false ∧ State.reset.rail.state = .low := by decide

theorem activeWf_of (s : State) (h : ∀ v : Fin 16, ((s.valve v).state = .idle ∨ (s.valve v).state = .hold) ∧
    (s.valve v).active < (s.valve v).cfg.maxOpen * 1000) : s.activeWf := by
  intro v
  obtain ⟨hs, ha⟩ := h v
  refine ⟨fun _ => ha, ?_, by omega⟩
  intro ph d hd
  rcases hs with hs | hs <;> rw [hs] at hd <;> cases hd

theorem test_hyp_invariants_met :
    (State.reset.storesWf ∧ State.reset.linkWf) ∧ (State.reset.lineWf ∧ State.reset.disabledWf) ∧
    State.reset.outputsWf ∧ State.reset.activeWf ∧ State.reset.belt.wf ∧ State.reset.handedWf :=
  ⟨⟨by decide, by decide⟩, ⟨by decide, by decide⟩, by decide, activeWf_of _ (by decide),
   ⟨by decide, by decide, by decide, by decide, by decide, by decide⟩, by decide⟩

/-- A part at work: ARMED, a decided record, a valve in HOLD that carries its OPEN action. -/
def atWork : State :=
  { withValve .hold true with
    ctrl := { State.reset.ctrl with line := .armed },
    table := ⟨[record 52 (.decided closing .verdict [⟨0, 500, 700, .active⟩])], 53, 0, .stopped⟩,
    sched := { Schedule.reset with
      queues := Schedule.reset.queues.set 0 [⟨.opened, 500, 700, [contribution 52 0 500 700]⟩] } }

theorem test_hyp_invariants_met_at_work :
    (atWork.storesWf ∧ atWork.linkWf) ∧ (atWork.lineWf ∧ atWork.disabledWf) ∧ atWork.outputsWf ∧ atWork.activeWf ∧
    atWork.belt.wf ∧ atWork.handedWf :=
  ⟨⟨by decide, by decide⟩, ⟨by decide, by decide⟩, by decide, activeWf_of _ (by decide),
   ⟨by decide, by decide, by decide, by decide, by decide, by decide⟩, by decide⟩

end Sys2Proof.Tests
end

section
/-! PROOFS. The belt position (R11, R13): what an update does to a part with its lanes OFF and its stores empty, the
answer to SET_POSITION, and what each operation of the Belt Position Unit does to the belt position. -/

namespace Sys2Proof.Machine

/-! ### Advances worked out (R102) -/

/-- The advances of every valve at a speed, read from the valves alone (R102). -/
def Drive.advancesAt (d : Drive) (speed : Nat) : Vector Advance 16 :=
  Vector.ofFn fun v => d.valves[v].cfg.advanceAt speed

/-- Each valve's place holds the advances of its own latencies. -/
theorem Drive.getElem_advancesAt (d : Drive) (speed : Nat) (v : Fin 16) :
    (d.advancesAt speed)[v] = d.valves[v].cfg.advanceAt speed := by
  simp [Drive.advancesAt]

/-- Working out one valve's advances writes that valve's place. -/
theorem State.advance_workOutAdvance (speed : Nat) (s : State) (v w : Fin 16) :
    (State.workOutAdvance speed s v).advance w = if v = w then (s.valve v).cfg.advanceAt speed else s.advance w := by
  unfold State.advance State.workOutAdvance
  by_cases h : v = w
  · subst h; simp
  · have h' : v.val ≠ w.val := fun e => h (Fin.ext e)
    simp [h, h']

/-- Working out every valve's advances gives each valve its own (R102). -/
theorem State.advance_workOutAdvances (s : State) (speed : Nat) (v : Fin 16) :
    (s.workOutAdvances speed).advance v = (s.valve v).cfg.advanceAt speed := by
  have valveKept : ∀ (t : State) (x w : Fin 16), (State.workOutAdvance speed t x).valve w = t.valve w :=
    fun t x w => State.valve_of_drive (by simp) w
  have each := foldl_allValves (f := State.workOutAdvance speed)
    (get := fun t w => (t.advance w, t.valve w)) (g := fun _ x => (x.2.cfg.advanceAt speed, x.2))
    (fun t x => by simp [State.advance_workOutAdvance, valveKept])
    (fun t x w h => by simp [State.advance_workOutAdvance, valveKept, h]) s v
  exact congrArg Prod.fst each

/-- Working out the advances writes them and nothing else (R102). -/
theorem State.workOutAdvances_eq (s : State) (speed : Nat) :
    s.workOutAdvances speed = { s with sched := { s.sched with advances := s.drive.advancesAt speed } } := by
  obtain ⟨adv, h⟩ : ∃ adv, s.workOutAdvances speed = { s with sched := { s.sched with advances := adv } } := by
    refine foldl_keeps (P := fun t => ∃ adv, t = { s with sched := { s.sched with advances := adv } }) ?_
      allValves s ⟨s.sched.advances, rfl⟩
    rintro t v ⟨adv, rfl⟩
    exact ⟨_, rfl⟩
  have hadv : adv = s.drive.advancesAt speed := by
    ext1 i hi
    have hv := s.advance_workOutAdvances speed ⟨i, hi⟩
    rw [h] at hv
    exact hv.trans (s.drive.getElem_advancesAt speed ⟨i, hi⟩).symm
  rw [h, hadv]

/-! ### An update to a part with nothing under way (R12) -/

/-- A lane that is OFF has no item to grow too long (R44). -/
theorem Lane.tooLong_off (x : Lane) (position : Pos) (h : x.state = .off) : x.tooLong position = false := by
  simp [Lane.tooLong, h]

/-- With every lane OFF the Lane Inputs keep the update and close nothing (R44). -/
theorem State.lanesUpdate_allOff (s : State) (u : Update) (h : s.lanesAllOff) :
    State.lanesUpdate u s =
      { s with lanes := { s.lanes with position := u.position, motion := u.motion, source := u.source } } := by
  have noneTooLong : allLanes.filter (fun l => s.lanes.lanes[l].tooLong u.position) = [] :=
    List.filter_eq_nil_iff.mpr fun l _ => Bool.eq_false_iff.mp (Lane.tooLong_off _ _ (h l))
  unfold State.lanesUpdate
  dsimp only [State.lane]
  rw [noneTooLong]
  rfl

/-- With no record the Tracking Table keeps the update and checks nothing (R56, R58). -/
theorem State.tableUpdate_noRecords (s : State) (u : Update) (h : s.table.records = []) :
    State.tableUpdate u s = { s with table := { s.table with position := u.position, motion := u.motion } } := by
  unfold State.tableUpdate
  dsimp only
  rw [h]
  split <;> rfl

/-- The examination of an empty queue changes nothing (R104). -/
theorem State.examineValve_empty (p : Pos) (s : State) (v : Fin 16) (h : s.queue v = []) :
    State.examineValve p s v = s := by
  have same : s.sched.queues.set v [] = s.sched.queues := by
    rw [← h]
    exact Vector.set_getElem_self _
  unfold State.examineValve
  rw [h, State.examineQueue, State.putQueue, same]

/-- With every queue empty the Action Schedule keeps the update with the advances it gives, and no head is examined
(R90, R102, R104). -/
theorem State.driveUpdate_noActions (s : State) (u : Update) (h : ∀ v : Fin 16, s.queue v = []) :
    State.driveUpdate u s =
      { s with sched := { s.sched with
          position := u.position, motion := u.motion, speed := u.speed, advances := s.drive.advancesAt u.speed } } := by
  have taken : State.scheduleUpdate u s = { s with sched := { s.sched with
      position := u.position, motion := u.motion, speed := u.speed, advances := s.drive.advancesAt u.speed } } :=
    State.workOutAdvances_eq _ _
  have nothingExamined : allValves.foldl (State.examineValve u.position) (State.scheduleUpdate u s) =
      State.scheduleUpdate u s := by
    refine foldl_keeps (P := fun t => t = State.scheduleUpdate u s) ?_ allValves _ rfl
    rintro t v rfl
    refine State.examineValve_empty _ _ _ ?_
    rw [taken]
    exact h v
  unfold State.driveUpdate
  dsimp only
  rw [nothingExamined, ite_self, taken]

/-- An update handed to a part with its lanes OFF and its stores empty is kept by every receiver, whichever takes it
first, and nothing else changes (R12). -/
theorem State.handUpdate_idle (s : State) (k : UpdateKind) (hl : s.lanesAllOff) (hs : s.storesEmpty) :
    ∃ o, s.handUpdate k =
      { s with
        lanes := { s.lanes with position := s.belt.position, motion := s.belt.motion, source := s.belt.source.kind },
        table := { s.table with position := s.belt.position, motion := s.belt.motion },
        sched := { s.sched with position := s.belt.position, motion := s.belt.motion, speed := s.belt.speed,
                                advances := s.drive.advancesAt s.belt.speed },
        order := o } := by
  obtain ⟨hr, hq⟩ := hs
  obtain ⟨o, ho⟩ := s.choose_snd 6
  refine ⟨o, ?_⟩
  have lanes : ∀ (t : State) u, t.lanes = s.lanes → State.lanesUpdate u t = _ := fun t u e =>
    State.lanesUpdate_allOff t u fun l => by rw [State.lane, e]; exact hl l
  have table : ∀ (t : State) u, t.table = s.table → State.tableUpdate u t = _ := fun t u e =>
    State.tableUpdate_noRecords t u (by rw [e]; exact hr)
  have drive : ∀ (t : State) u, t.sched = s.sched → State.driveUpdate u t = _ := fun t u e =>
    State.driveUpdate_noActions t u fun v => (State.queue_of_sched e v).trans (hq v)
  unfold State.handUpdate
  dsimp only
  rw [ho]
  split <;> simp only [lanes, table, drive, Belt.update]

/-! ### SET_POSITION (R13) -/

/-- A four-byte field reads back as it was sent (R181). -/
@[simp] theorem word_putWord (p : Pos) : word (putWord p) 0 = p := by
  simp only [word, half, byteAt, putWord, List.getD_cons_zero, List.getD_cons_succ]
  ext i hi
  simp only [BitVec.getElem_append, BitVec.getElem_extractLsb']
  grind

/-- SET_POSITION that finds the link ready is answered at once with what its owner gives (R168, R169). -/
theorem exec_setPosition (s : State) (tag : Byte) (p : Pos) (h : s.linkReady) :
    exec (.setPosition tag (putWord p)) s = .next ((runSetPosition (putWord p) s).state.withReply 0x94 tag
      (runSetPosition (putWord p) s).body (runSetPosition (putWord p) s).after) := by
  change Host.Outcome.next (s.acceptFrame ⟨RequestKind.setPosition.code, tag, putWord p⟩) = _
  rw [State.acceptFrame_ready s _ h, State.execute_known s .setPosition tag _ rfl]
  rfl

/-- Outside CONFIG the owner refuses SET_POSITION with STATE (R13). -/
theorem runSetPosition_refused (s : State) (p : Pos) (h : s.ctrl.line ≠ .config) :
    runSetPosition (putWord p) s = ⟨s, [4], .nothing⟩ := by
  unfold runSetPosition
  rw [if_pos h]
  rfl

/-- In CONFIG the owner applies the position sent (R13). -/
theorem runSetPosition_accepted (s : State) (p : Pos) (h : s.ctrl.line = .config) :
    runSetPosition (putWord p) s = ⟨s.applyPosition p, [0], .nothing⟩ := by
  unfold runSetPosition
  rw [if_neg (not_not_intro h), word_putWord]
  rfl

/-- Settles O24: in CONFIG the lanes are OFF and the stores empty, so every receiver only keeps the update. -/
theorem setPositionHandsOneUpdate : Obligations.SetPositionHandsOneUpdate := by
  refine ⟨fun s tag p hready hline => ?_, fun s tag p hready hline hwf => ?_⟩
  · rw [exec_setPosition s tag p hready, runSetPosition_refused s p hline]
  · have outsideArmed : s.ctrl.line ≠ .armed := by rw [hline]; decide
    obtain ⟨hlanes, hstores, _⟩ := hwf.1 outsideArmed
    obtain ⟨o, handed⟩ := (s.putBelt { s.belt with position := p }).handUpdate_idle .set hlanes hstores
    refine ⟨s.applyPosition p, ?_, ?_, fun v => ?_⟩
    · rw [exec_setPosition s tag p hready, runSetPosition_accepted s p hline]
    · rw [State.applyPosition, handed]
      rfl
    · rw [State.applyPosition, handed]
      exact s.drive.getElem_advancesAt s.belt.speed v

/-! ### The belt position through the operations on the belt (R11) -/

@[simp] theorem Belt.position_feed (b : Belt) (d : Dir) : (b.feed d).position = b.position := by
  unfold Belt.feed
  repeat' split
  all_goals rfl

@[simp] theorem Belt.position_time (b : Belt) (d : Dir) (now : Nat) : (b.time d now).position = b.position := rfl

@[simp] theorem Belt.position_confirm (b : Belt) : b.confirm.position = b.position := by
  unfold Belt.confirm
  repeat' split
  all_goals rfl

@[simp] theorem Belt.position_restartStop (b : Belt) : b.restartStop.position = b.position := rfl

@[simp] theorem Belt.position_restartLoss (b : Belt) : b.restartLoss.position = b.position := rfl

@[simp] theorem Belt.position_stop (b : Belt) : b.stop.position = b.position := by
  unfold Belt.stop
  split <;> rfl

@[simp] theorem Belt.position_lose (b : Belt) : b.lose.position = b.position := b.position_stop

@[simp] theorem Belt.position_estimateAgain (b : Belt) : b.estimateAgain.position = b.position := rfl

/-- Of all that an encoder count does to the belt, only its move changes the position (R11). -/
@[simp] theorem Belt.position_encoderCount (b : Belt) (d : Dir) (now : Nat) :
    (b.encoderCount d now).position = (b.move d).position := by
  simp [Belt.encoderCount]

/-- A generated count moves the position forward (R11, R21, R27). -/
@[simp] theorem Belt.position_generatedCount (b : Belt) : b.generatedCount.position = b.position + 1 := by
  simp [Belt.generatedCount, Belt.move]

/-! ### The belt position through the operations on the part (R11) -/

/-- What an encoder count hands on leaves the position of its move (R11). -/
theorem State.position_countEncoder (s : State) (d : Dir) :
    (s.countEncoder d).belt.position = (s.belt.move d).position := by
  simp [State.countEncoder]

/-- What a generated count hands on leaves the position of its move (R11). -/
theorem State.position_countGenerated (s : State) (k : UpdateKind) :
    (s.countGenerated k).belt.position = s.belt.position + 1 := by
  simp [State.countGenerated]

/-- An entry into LOST is no count: the position is held (R20). -/
@[simp] theorem State.position_enterLost (s : State) (cause : LostCause) :
    (s.enterLost cause).belt.position = s.belt.position := by
  simp [State.enterLost]

/-- Nor is a CONFIRMING begun in LOST that fails (R24, R25). -/
@[simp] theorem State.position_gapFromLost (s : State) : s.gapFromLost.belt.position = s.belt.position := by
  unfold State.gapFromLost
  split
  · simp
  · exact s.position_enterLost .gap

/-- Nor any CONFIRMING that fails (R24). -/
@[simp] theorem State.position_gapExpiry (s : State) : s.gapExpiry.belt.position = s.belt.position := by
  unfold State.gapExpiry
  repeat' split
  all_goals simp

/-- A count as it comes moves the position by its own move, whether or not a CONFIRMING fails before it (R11, R24). -/
theorem State.position_takeCount (s : State) (d : Dir) :
    (s.takeCount d).belt.position = (s.belt.move d).position := by
  cases hgap : s.belt.gapOver with
  | false => rw [s.takeCount_inTime d hgap, State.position_countEncoder]
  | true =>
    rw [s.takeCount_late d hgap, State.position_countEncoder]
    simp [Belt.move]

/-- Settles O27: each count's position is that of its move, which the changes handed with it leave as it is. -/
theorem everyCountMovesThePositionByOne : Obligations.EveryCountMovesThePositionByOne :=
  ⟨fun s => ⟨s.position_countEncoder .forward, s.position_countEncoder .reverse, s.position_takeCount .forward,
      s.position_takeCount .reverse⟩,
    State.position_countGenerated, by decide, fun _ _ _ => rfl⟩

end Sys2Proof.Machine
end

section
/-! PROOFS. The fault flags as the host reads and clears them (R156, R158): the sets of flags as two bytes, what marking
and clearing write, and the answers to STATUS and CLEAR_FAULTS. -/

namespace Sys2Proof.Machine

/-! ### The eleven flags (Table 9-6) -/

/-- A flag's number is its bit position in a flag field. -/
theorem FaultFlag.number_eq_flagPosition (f : FaultFlag) : f.number.val = FlagPosition f := by
  cases f <;> rfl

/-- Every flag is in the list of all flags. -/
@[simp] theorem FaultFlag.mem_all (f : FaultFlag) : f ∈ FaultFlag.all := by
  cases f <;> decide

/-- The list of all flags names each once. -/
theorem FaultFlag.nodup_all : FaultFlag.all.Nodup := by decide

/-- Every number below eleven is some flag's. -/
theorem FaultFlag.exists_number_eq (i : Fin 11) : ∃ f : FaultFlag, f.number = i := by
  have named : ∀ i : Fin 11, ∃ f ∈ FaultFlag.all, f.number = i := by decide
  obtain ⟨f, _, hf⟩ := named i
  exact ⟨f, hf⟩

/-- Two blocks of flags that agree on every flag are the same. -/
theorem FaultFlag.vector_ext {u v : Vector FlagState 11} (h : ∀ f : FaultFlag, u[f.number] = v[f.number]) : u = v := by
  ext1 i hi
  obtain ⟨f, hf⟩ := FaultFlag.exists_number_eq ⟨i, hi⟩
  simpa [hf] using h f

/-! ### Flag fields as two bytes (Table 9-6) -/

/-- Adding members to a set of bits sets their positions and no other. -/
theorem getLsbD_foldl_or_shift (i : Nat) (hi : i < 16) : ∀ (ks : List Nat) (b : Half),
    (ks.foldl (fun b k => b ||| ((1 : Half) <<< k)) b).getLsbD i = (b.getLsbD i || decide (i ∈ ks))
  | [], b => by simp
  | k :: ks, b => by
    have single : ((1 : Half) <<< k).getLsbD i = decide (i = k) :=
      (BitVec.getLsbD_twoPow k i).trans (by grind)
    rw [List.foldl_cons, getLsbD_foldl_or_shift i hi ks, BitVec.getLsbD_or, single, Bool.or_assoc]
    simp

/-- A set sent as two bytes has a bit where it has a member. -/
theorem getLsbD_setBits (ks : List Nat) (i : Nat) (hi : i < 16) : (setBits ks).getLsbD i = decide (i ∈ ks) := by
  rw [setBits, getLsbD_foldl_or_shift i hi]
  simp

/-- The flags chosen by a property, sent as two bytes, are that property's flag field. -/
theorem flagField_setBits (p : FaultFlag → Bool) :
    FlagField (setBits ((FaultFlag.all.filter p).map (fun f => f.number.val))) p := by
  refine ⟨fun f => ?_, fun i hi => ?_⟩
  · have chosen : f.number.val ∈ (FaultFlag.all.filter p).map (fun f => f.number.val) ↔ p f = true := by
      simp only [List.mem_map, List.mem_filter, FaultFlag.mem_all, true_and]
      exact ⟨fun ⟨g, hg, same⟩ => FaultFlag.number_inj (Fin.ext same) ▸ hg, fun hf => ⟨f, hf, rfl⟩⟩
    rw [← f.number_eq_flagPosition, getLsbD_setBits _ _ (by omega)]
    simp only [chosen, Bool.decide_eq_true]
  · by_cases small : i < 16
    · have absent : i ∉ (FaultFlag.all.filter p).map (fun f => f.number.val) := by
        intro mem
        obtain ⟨f, _, rfl⟩ := List.mem_map.mp mem
        omega
      rw [getLsbD_setBits _ i small, decide_eq_false absent]
    · exact BitVec.getLsbD_of_ge _ i (by omega)

/-- The flags of a reply are the set flags. -/
theorem State.flagField_flagSet (s : State) : FlagField s.ctrl.flagSet (fun f => (s.flag f).set) :=
  flagField_setBits _

/-- The marks of a reply are those of the set flags. -/
theorem State.flagField_markSet (s : State) :
    FlagField s.ctrl.markSet (fun f => (s.flag f).set && (s.flag f).reported) :=
  flagField_setBits _

/-- A two-byte field reads back as it was sent (R181). -/
@[simp] theorem half_putHalf (h : Half) : half (putHalf h) 0 = h := by
  simp only [half, byteAt, putHalf, List.getD_cons_zero, List.getD_cons_succ]
  ext i hi
  simp only [BitVec.getElem_append, BitVec.getElem_extractLsb']
  grind

/-! ### Writing flags one by one -/

/-- A flag written as it stands changes nothing. -/
@[simp] theorem State.putFlag_flag (s : State) (f : FaultFlag) : s.putFlag f (s.flag f) = s := by
  have same : s.ctrl.flags.set f.number (s.flag f) = s.ctrl.flags := Vector.set_getElem_self _
  rw [State.putFlag, LineControl.putFlag, same]

/-- No condition reads the flags (R155). -/
@[simp] theorem State.condition_putFlag (s : State) (f g : FaultFlag) (x : FlagState) :
    (s.putFlag f x).condition g = s.condition g := by
  cases g <;> rfl

/-- What writes one flag after another leaves everything but the flags as it is. -/
theorem State.foldl_putFlag_frame {op : State → FaultFlag → State} (writes : ∀ t f, ∃ x, op t f = t.putFlag f x)
    (fs : List FaultFlag) (s : State) :
    fs.foldl op s = { s with ctrl := { s.ctrl with flags := (fs.foldl op s).ctrl.flags } } := by
  refine foldl_keeps (P := fun t => t = { s with ctrl := { s.ctrl with flags := t.ctrl.flags } }) ?_ fs s rfl
  intro t f ht
  obtain ⟨x, hx⟩ := writes t f
  rw [hx, ht]
  rfl

/-! ### Marking (R158) -/

/-- A flag behind STATUS: with its mark if it is set (R158). -/
def FlagState.marked (x : FlagState) : FlagState := if x.set then ⟨true, true⟩ else x

/-- Marking writes the flag with its mark. -/
theorem State.markFlag_eq (s : State) (f : FaultFlag) : s.markFlag f = s.putFlag f (s.flag f).marked := by
  unfold State.markFlag FlagState.marked
  split <;> simp

/-- Marking every flag leaves each as `marked` gives it. -/
theorem State.flag_markAll (s : State) (f : FaultFlag) :
    (FaultFlag.all.foldl State.markFlag s).flag f = (s.flag f).marked := by
  rw [foldl_each (f := State.markFlag) (get := State.flag) (g := fun _ => FlagState.marked)
    (fun t g => by simp [State.markFlag_eq])
    (fun t g h ne => by simp [State.markFlag_eq, State.flag_putFlag, ne]) f _ s FaultFlag.nodup_all,
    if_pos f.mem_all]

/-- Marking every flag writes the flags and nothing else. -/
theorem State.markAll_eq (s : State) : FaultFlag.all.foldl State.markFlag s =
    { s with ctrl := { s.ctrl with flags := s.ctrl.flags.map FlagState.marked } } := by
  have flags : (FaultFlag.all.foldl State.markFlag s).ctrl.flags = s.ctrl.flags.map FlagState.marked :=
    FaultFlag.vector_ext fun f => (s.flag_markAll f).trans (by simp [State.flag, LineControl.flag])
  rw [State.foldl_putFlag_frame (fun t f => ⟨_, t.markFlag_eq f⟩), flags]

/-! ### Clearing (R156) -/

/-- A flag behind a CLEAR_FAULTS that names it: clear if it was set and reported without its condition (R156). -/
def FlagState.clearedUnless (condition : Bool) (x : FlagState) : FlagState :=
  if x.set && x.reported && !condition then ⟨false, false⟩ else x

/-- Clearing writes the flag as its condition allows. -/
theorem State.clearFlag_eq (s : State) (f : FaultFlag) :
    s.clearFlag f = s.putFlag f ((s.flag f).clearedUnless (s.condition f)) := by
  unfold State.clearFlag FlagState.clearedUnless
  split <;> simp

/-- The flags that a flag set names (Table 9-6). -/
theorem mem_namedFlags (named : Half) (f : FaultFlag) :
    f ∈ namedFlags named ↔ named.getLsbD (FlagPosition f) = true := by
  simp [namedFlags, f.number_eq_flagPosition]

/-- The part after every flag that a flag set names has had its turn (R156). -/
def State.clearNamed (s : State) (named : Half) : State := (namedFlags named).foldl State.clearFlag s

/-- Clearing the named flags writes the flags and nothing else. -/
theorem State.clearNamed_frame (s : State) (named : Half) :
    s.clearNamed named = { s with ctrl := { s.ctrl with flags := (s.clearNamed named).ctrl.flags } } :=
  State.foldl_putFlag_frame (fun t f => ⟨_, t.clearFlag_eq f⟩) (namedFlags named) s

/-- Clearing the named flags treats each named one by its own condition, and keeps every other. -/
theorem State.flag_clearNamed (s : State) (named : Half) (f : FaultFlag) :
    (s.clearNamed named).flag f =
      if named.getLsbD (FlagPosition f) = true ∧ (s.flag f).set = true ∧ (s.flag f).reported = true ∧
        s.condition f = false then ⟨false, false⟩ else s.flag f := by
  have each := foldl_each (f := State.clearFlag) (get := fun t g => (t.flag g, t.condition g))
    (g := fun _ x => (x.1.clearedUnless x.2, x.2))
    (fun t g => by simp [State.clearFlag_eq])
    (fun t g h ne => by simp [State.clearFlag_eq, State.flag_putFlag, ne])
    f (namedFlags named) s (FaultFlag.nodup_all.filter _)
  have flag := congrArg Prod.fst each
  rw [apply_ite Prod.fst] at flag
  simp only [mem_namedFlags] at flag
  rw [State.clearNamed, flag, FlagState.clearedUnless]
  by_cases isNamed : named.getLsbD (FlagPosition f) = true <;> simp [isNamed, and_assoc]

/-! ### The conditions (R155) -/

/-- ENC_LOST has its condition while the source is ESTIMATE, CONFIRMING or LOST. -/
theorem State.condition_encLost (s : State) : s.condition .encLost = true ↔
    s.belt.source.kind = .estimate ∨ s.belt.source.kind = .confirming ∨ s.belt.source.kind = .lost := by
  unfold State.condition
  cases s.belt.source.kind <;> simp

/-- TRACK_HALT has its condition while the line is HALTED. -/
theorem State.condition_trackHalt (s : State) :
    s.condition .trackHalt = true ↔ ∃ why, s.ctrl.line = .halted why := by
  unfold State.condition
  cases s.ctrl.line <;> simp

/-- RAIL_LOW has its condition while the rail is LOW. -/
theorem State.condition_railLow (s : State) : s.condition .railLow = true ↔ s.rail.state = .low :=
  beq_iff_eq

/-- EYE_BLOCKED has its condition while a lane is BLOCKED with cause LENGTH. -/
theorem State.condition_eyeBlocked (s : State) :
    s.condition .eyeBlocked = true ↔ ∃ l : Fin 8, (s.lane l).state = .blocked .length := by
  simp [State.condition, Lane.blockedByLength, State.lane]

/-- The other seven flags have no condition. -/
theorem State.condition_absent (s : State) (f : FaultFlag) (hlost : f ≠ .encLost) (hhalt : f ≠ .trackHalt)
    (hrail : f ≠ .railLow) (heye : f ≠ .eyeBlocked) : s.condition f = false := by
  cases f with
  | encLost => exact absurd rfl hlost
  | trackHalt => exact absurd rfl hhalt
  | railLow => exact absurd rfl hrail
  | eyeBlocked => exact absurd rfl heye
  | encPhase | valveOvertime | tableFull | schedFull | linkError | linkOverrun | noticeDrop => rfl

/-- An occurrence of a clear flag sets it unmarked and offers its FAULT notice (R154, R160). -/
theorem State.occur_of_clear (s : State) (f : FaultFlag) (h : (s.flag f).set = false) :
    s.occur f = (s.putFlag f ⟨true, false⟩).offer (.fault f) := by
  simp [State.occur, h]

/-! ### STATUS (R158) -/

/-- STATUS that finds the link ready is answered at once with what its owner gives (R168, R169). -/
theorem exec_status (s : State) (tag : Byte) (h : s.linkReady) :
    exec (.status tag []) s = .next
      ((runStatus s).state.withReply 0x82 tag (runStatus s).body (runStatus s).after) := by
  change Host.Outcome.next (s.acceptFrame ⟨RequestKind.status.code, tag, []⟩) = _
  rw [State.acceptFrame_ready s _ h, State.execute_known s .status tag _ rfl]
  rfl

/-- The owner answers with the fields as they stand, and writes every set flag's mark (R158). -/
theorem runStatus_eq (s : State) : runStatus s =
    ⟨{ s with ctrl := { s.ctrl with flags := s.ctrl.flags.map FlagState.marked } }, [0] ++ s.statusFields,
      .nothing⟩ := by
  rw [runStatus, State.markAll_eq]
  rfl

/-- Settles O5: the reply is made of the state before the marks are written, and marking writes the flags alone. -/
theorem statusGivesTheSnapshotThenMarks : Obligations.StatusGivesTheSnapshotThenMarks := by
  intro s tag hready
  refine ⟨s.ctrl.flagSet, s.ctrl.markSet, s.flagField_flagSet, s.flagField_markSet, ?_⟩
  rw [exec_status s tag hready, runStatus_eq, State.statusFields]
  simp only [List.append_assoc]
  rfl

/-! ### CLEAR_FAULTS (R156) -/

/-- CLEAR_FAULTS that finds the link ready is answered at once with what its owner gives (R168, R169). -/
theorem exec_clearFaults (s : State) (tag : Byte) (named : Half) (h : s.linkReady) :
    exec (.clearFaults tag (putHalf named)) s = .next ((runClearFaults (putHalf named) s).state.withReply 0x83 tag
      (runClearFaults (putHalf named) s).body (runClearFaults (putHalf named) s).after) := by
  change Host.Outcome.next (s.acceptFrame ⟨RequestKind.clearFaults.code, tag, putHalf named⟩) = _
  rw [State.acceptFrame_ready s _ h, State.execute_known s .clearFaults tag _ rfl]
  rfl

/-- A flag set that names anything else is refused with BAD_VALUE (R156, R181). -/
theorem runClearFaults_refused (s : State) (named : Half) (h : named &&& 0xF800 ≠ 0) :
    runClearFaults (putHalf named) s = ⟨s, [3], .nothing⟩ := by
  have other : namesOther named = true := bne_iff_ne.mpr h
  unfold runClearFaults
  rw [half_putHalf, if_pos other]
  rfl

/-- A flag set of the eleven flags is cleared one by one, and the flags left are answered (R156). -/
theorem runClearFaults_accepted (s : State) (named : Half) (h : named &&& 0xF800 = 0) :
    runClearFaults (putHalf named) s = ⟨s.clearNamed named,
      [0] ++ (putHalf (s.clearNamed named).ctrl.flagSet ++ putHalf (s.clearNamed named).ctrl.markSet), .nothing⟩ := by
  have flagsOnly : ¬ namesOther named = true := fun other => bne_iff_ne.mp other h
  unfold runClearFaults
  rw [half_putHalf, if_neg flagsOnly]
  rfl

/-- Settles O6: each named flag is cleared by itself, since no condition reads the flags. -/
theorem clearFaultsClearsSeenFlagsWithoutCondition : Obligations.ClearFaultsClearsSeenFlagsWithoutCondition := by
  refine ⟨fun s tag named hready hother => ?_, fun s tag named hready hflags => ?_, fun s => ?_, State.occur_of_clear⟩
  · rw [exec_clearFaults s tag named hready, runClearFaults_refused s named hother]
  · refine ⟨s.clearNamed named, _, _, ?_, s.clearNamed_frame named, s.flag_clearNamed named,
      State.flagField_flagSet _, State.flagField_markSet _⟩
    rw [exec_clearFaults s tag named hready, runClearFaults_accepted s named hflags]
    rfl
  · exact ⟨s.condition_encLost, s.condition_trackHalt, s.condition_railLow, s.condition_eyeBlocked,
      s.condition_absent⟩

end Sys2Proof.Machine
end

section
/-! PROOFS. The host link (chapter 8): how a request row with a payload of the right size is answered when the link is
ready, and on it the answer to IDENT (R176) and the notice mask with the notices it lets wait (R173). -/

namespace Sys2Proof.Machine

/-! ### Requests that find the link ready (R167 to R169) -/

/-- A command that stands on the link as a frame offers that frame to the Link Port (R167; log 1). -/
theorem exec_of_frame (i : Instr) (f : Frame) (s : State) (h : i.frame? = some f) :
    exec i s = .next (s.acceptFrame f) := by
  cases i <;> cases h <;> rfl

/-- A request of a known kind and the right size that finds the link ready is answered at once with what its owner
gives (R168, R169). -/
theorem exec_known (i : Instr) (k : RequestKind) (tag : Byte) (p : List Byte) (s : State)
    (hframe : i.frame? = some ⟨k.code, tag, p⟩) (hsize : p.length = k.size) (hready : s.linkReady) :
    exec i s = .next ((handRequest k p s).state.withReply (replyKind k.code) tag (handRequest k p s).body
      (handRequest k p s).after) := by
  rw [exec_of_frame i _ s hframe, State.acceptFrame_ready s _ hready, State.execute_known s k tag p hsize]

/-! ### IDENT (R176) -/

/-- The owner answers OK with the fields of Table 9-14 and leaves the part as it is (R176). -/
theorem runIdent_eq (s : State) : runIdent s =
    ⟨s, [0, 0x4A, 0x4F, 0x4C, 0x53, 0x54, 0x41, 0x4E, 0, 0x54, 0x53, 0x31, 0x36, 0x30, 0x38, 0, 0, 2, 64, 128, 16, 8],
      .nothing⟩ := rfl

/-- Settles O4: the owner changes nothing, so the reply slot is all that execution writes. -/
theorem identAnswersTheConstantFields : Obligations.IdentAnswersTheConstantFields := by
  intro s tag hready
  have answered := exec_known (.ident tag []) .ident tag [] s rfl rfl hready
  rwa [handRequest, runIdent_eq] at answered

/-! ### SET_NOTICES (R173) -/

/-- The owner takes every set of kinds, writes the mask alone and answers the mask in force (R173). -/
theorem runSetNotices_eq (s : State) (m : Byte) : runSetNotices [m] s =
    ⟨{ s with link := { s.link with mask := m } }, [0, m], .nothing⟩ := rfl

/-- SET_NOTICES that finds the link ready puts its mask in force and answers it (R173). -/
theorem exec_setNotices (s : State) (tag m : Byte) (hready : s.linkReady) : exec (.setNotices tag [m]) s =
    .next ({ s with link := { s.link with mask := m } }.withReply 0x85 tag [0, m] .nothing) := by
  have answered := exec_known (.setNotices tag [m]) .setNotices tag [m] s rfl rfl hready
  rwa [handRequest, runSetNotices_eq] at answered

/-- The oldest notice begins and leaves the queue; the mask is not read (R171, R175). -/
theorem Link.beginNotice_cons (l : Link) (n : Notice) (ns : List Notice) (h : l.notices = n :: ns) :
    l.beginNotice = { l with notices := ns, tx := .sending n.frame.bytes .nothing 0 } := by
  simp [Link.beginNotice, h]

/-- A free transmitter with no reply to send begins a notice (R174). -/
theorem State.transmitBegins_notice (s : State) (hfree : s.link.tx = .free) (hslot : s.link.slot = none) :
    s.transmitBegins = { s with link := s.link.beginNotice } := by
  simp [State.transmitBegins, hfree, hslot]

/-- TRANSMIT_START with no reply waiting sends the oldest notice, whatever the mask says of its kind (R173, R174). -/
theorem exec_transmitStart_notice (s : State) (n : Notice) (ns : List Notice) (hfree : s.link.tx = .free)
    (hslot : s.link.slot = none) (hnotices : s.link.notices = n :: ns) : exec .transmitStart s =
    .next { s with link := { s.link with notices := ns, tx := .sending n.frame.bytes .nothing 0 } } := by
  change Host.Outcome.next s.transmitBegins = _
  rw [s.transmitBegins_notice hfree hslot, s.link.beginNotice_cons n ns hnotices]

/-- Every reset enables all eight kinds (Table 8-7). -/
theorem State.mask_resetPart (s : State) (cause : ResetCause) (settings : LinkSettings) :
    (s.resetPart cause settings).link.mask = 0xFF := rfl

/-- Settles O9: the mask is read where a notice is offered and nowhere else, so those queued before are still sent. -/
theorem setNoticesSetsTheMask : Obligations.SetNoticesSetsTheMask :=
  ⟨exec_setNotices, State.offer_masked,
    fun s n ns hfree hslot hnotices => ⟨_, exec_transmitStart_notice s n ns hfree hslot hnotices, rfl⟩,
    State.mask_resetPart⟩

end Sys2Proof.Machine
end

section
/-! PROOFS. Facts about lists that core Lean does not have: an injection on a list, sums over a list, and appended lists
with no element twice. -/

namespace Sys2Proof.Machine

/-! ### No element twice -/

/-- An injection on the elements of a list keeps them apart. -/
theorem nodup_map_of_inj {α β : Type} {f : α → β} {xs : List α} (h : xs.Nodup)
    (inj : ∀ x ∈ xs, ∀ y ∈ xs, f x = f y → x = y) : (xs.map f).Nodup :=
  List.pairwise_map.mpr (h.imp_of_mem fun hx hy apart e => apart (inj _ hx _ hy e))

/-- Elements whose images are all apart are told by them. -/
theorem eq_of_nodup_map {α β : Type} {f : α → β} : ∀ {xs : List α}, (xs.map f).Nodup → ∀ {x y : α}, x ∈ xs → y ∈ xs →
    f x = f y → x = y
  | z :: zs, h, x, y, hx, hy, e => by
    obtain ⟨first, rest⟩ := List.nodup_cons.mp h
    rcases List.mem_cons.mp hx with hx | inX <;> rcases List.mem_cons.mp hy with hy | inY
    · exact hx.trans hy.symm
    · exact absurd (hx ▸ e ▸ List.mem_map_of_mem inY) first
    · exact absurd (hy ▸ e ▸ List.mem_map_of_mem inX) first
    · exact eq_of_nodup_map rest inX inY e

/-- Two lists with no element in both. -/
theorem nodup_append_iff {α : Type} {xs ys : List α} : (xs ++ ys).Nodup ↔ xs.Nodup ∧ ys.Nodup ∧ ∀ x ∈ xs, x ∉ ys := by
  rw [List.nodup_append]
  refine and_congr_right fun _ => and_congr_right fun _ => ⟨fun h x hx hy => h x hx x hy rfl, fun h x hx y hy e => ?_⟩
  exact h x hx (e ▸ hy)

/-! ### Equal on the elements -/

/-- Lists given for each element. -/
theorem flatMap_congr {α β : Type} {f g : α → List β} {xs : List α} (h : ∀ x ∈ xs, f x = g x) :
    xs.flatMap f = xs.flatMap g := by
  rw [List.flatMap_def, List.flatMap_def, List.map_congr_left h]

/-- What keeps every element keeps the list. -/
theorem filterMap_eq_self {α : Type} {f : α → Option α} : ∀ {xs : List α}, (∀ x ∈ xs, f x = some x) → xs.filterMap f = xs
  | [], _ => rfl
  | x :: xs, h => by
    rw [List.filterMap_cons_some (h x List.mem_cons_self),
      filterMap_eq_self fun y hy => h y (List.mem_cons_of_mem x hy)]

/-! ### Sums -/

/-- A sum grows with its terms. -/
theorem sum_map_le {α : Type} {f g : α → Nat} : ∀ {xs : List α}, (∀ x ∈ xs, f x ≤ g x) → (xs.map f).sum ≤ (xs.map g).sum
  | [], _ => Nat.le_refl 0
  | x :: xs, h => by
    rw [List.map_cons, List.map_cons, List.sum_cons, List.sum_cons]
    exact Nat.add_le_add (h x List.mem_cons_self) (sum_map_le fun y hy => h y (List.mem_cons_of_mem x hy))

/-- A sum of nothing but zeros. -/
theorem sum_map_zero {α : Type} {f : α → Nat} {xs : List α} (h : ∀ x ∈ xs, f x = 0) : (xs.map f).sum = 0 := by
  induction xs with
  | nil => rfl
  | cons x xs ih =>
    rw [List.map_cons, List.sum_cons, h x List.mem_cons_self, ih fun y hy => h y (List.mem_cons_of_mem x hy)]

/-- A sum of equal terms. -/
theorem sum_map_const {α : Type} (n : Nat) : ∀ xs : List α, (xs.map fun _ => n).sum = n * xs.length
  | [] => rfl
  | x :: xs => by
    rw [List.map_cons, List.sum_cons, sum_map_const n xs, List.length_cons, Nat.mul_succ, Nat.add_comm]

/-- A sum with one term taken out. -/
theorem sum_map_erase {α : Type} [BEq α] [LawfulBEq α] (f : α → Nat) {x : α} {xs : List α} (h : x ∈ xs) :
    f x + ((xs.erase x).map f).sum = (xs.map f).sum := by
  rw [((List.perm_cons_erase h).map f).sum_nat, List.map_cons, List.sum_cons]

/-- The elements chosen and the others are all of them. -/
theorem length_filter_add_length_filter_not {α : Type} (p : α → Bool) (xs : List α) :
    (xs.filter p).length + (xs.filter (fun x => !p x)).length = xs.length := by
  rw [← List.length_append, (List.filter_append_perm p xs).length_eq]

end Sys2Proof.Machine
end

section
/-! PROOFS. The induction behind every invariant: a property of the part's blocks that the operations of the requests and
of the events keep is kept by every step. What is proved of one invariant is then one goal per operation. -/

namespace Sys2Proof.Machine

/-! ### Properties of the blocks -/

/-- Two parts that agree in every block but the Link Port, whose queues stay within their bounds; whatever their flags,
pins, time base, order list and waiting commands. -/
structure SameBlocks (s t : State) : Prop where
  belt : t.belt = s.belt
  lanes : t.lanes = s.lanes
  table : t.table = s.table
  sched : t.sched = s.sched
  drive : t.drive = s.drive
  rail : t.rail = s.rail
  line : t.ctrl.line = s.ctrl.line
  motion : t.ctrl.motion = s.ctrl.motion
  link : s.linkWf → t.linkWf

/-- A property that reads the blocks alone, and of the link only that its queues are within their bounds. -/
def OfBlocks (P : State → Prop) : Prop := ∀ s t, SameBlocks s t → P s → P t

/-- An offer leaves the blocks. -/
theorem State.sameBlocks_offer (s : State) (n : Notice) : SameBlocks s (s.offer n) := by
  refine ⟨?_, ?_, ?_, ?_, ?_, ?_, ?_, ?_, fun ⟨hq, hn⟩ => ⟨by simpa using hq, s.notices_offer_le n hn⟩⟩ <;> simp

/-- An occurrence leaves the blocks. -/
theorem State.sameBlocks_occur (s : State) (f : FaultFlag) : SameBlocks s (s.occur f) := by
  refine ⟨?_, ?_, ?_, ?_, ?_, ?_, ?_, ?_, fun ⟨hq, hn⟩ => ⟨by simpa using hq, s.notices_occur_le f hn⟩⟩ <;> simp

/-- Another link within its bounds leaves the blocks. -/
theorem State.sameBlocks_link (s : State) (l : Link)
    (h : s.linkWf → l.queue.length ≤ 2 ∧ l.notices.length ≤ 32) : SameBlocks s { s with link := l } :=
  ⟨rfl, rfl, rfl, rfl, rfl, rfl, rfl, rfl, h⟩

/-- Pins and waiting commands are no blocks. -/
theorem State.sameBlocks_outside (s : State) (pins : Pins) (pending : List Instr) :
    SameBlocks s { s with pins := pins, pending := pending } :=
  ⟨rfl, rfl, rfl, rfl, rfl, rfl, rfl, rfl, id⟩

/-- Settling an order leaves the blocks. -/
theorem State.sameBlocks_settle {α : Type} (s : State) (xs : List α) : SameBlocks s (s.settle xs).2 := by
  refine ⟨?_, ?_, ?_, ?_, ?_, ?_, ?_, ?_, fun h => by simpa [State.linkWf] using h⟩ <;> simp

/-- The record that carries a tag carries it. -/
theorem State.tag_of_record? {s : State} {tag : Nat} {r : ItemRecord} (h : s.record? tag = some r) : r.tag = tag :=
  by simpa using List.find?_some h

/-- The record that carries a tag is in the table. -/
theorem State.mem_of_record? {s : State} {tag : Nat} {r : ItemRecord} (h : s.record? tag = some r) :
    r ∈ s.table.records := List.mem_of_find?_eq_some h

/-- No target fails a check exactly if all pass it. -/
theorem firstFailing_eq_none {α : Type} {ok : α → Bool} {xs : List α} :
    firstFailing ok xs = none ↔ ∀ x ∈ xs, ok x = true := by
  simp [firstFailing]

/-! ### What SET_LINE and SET_VALVE can carry -/

/-- A byte is below 256. -/
theorem num8_lt (p : List Byte) (i : Nat) : num8 p i < 256 := (byteAt p i).isLt

/-- Parameters that SET_LINE accepts are in the ranges of Table 1-2 (R3). -/
theorem parseLine_wf {p : List Byte} {q : LineParams} (h : parseLine p = some q) : q.wf := by
  unfold parseLine at h
  split at h
  · split at h
    · rename_i hr
      cases h
      have := num8_lt p 2
      simp only [LineParams.wf]
      omega
    · cases h
  · cases h

/-- Parameters that SET_VALVE accepts have a max open time of at least 1 ms (Table 6-2). -/
theorem parseValve_maxOpen {p : List Byte} {q : ValveParams} (h : parseValve p = some q) : 1 ≤ q.maxOpen := by
  unfold parseValve at h
  split at h
  · split at h
    · rename_i hr
      cases h
      dsimp only
      omega
    · cases h
  · cases h

/-! ### Requests -/

/-- The operations that requests come to keep a property, under what the checks of each request leave (chapters 1 to 8). -/
structure KeptByRequests (P : State → Prop) : Prop where
  ofBlocks : OfBlocks P
  line : ∀ s q, q.wf → s.ctrl.line = .config → P s → P (s.applyLine q)
  position : ∀ s p, s.ctrl.line = .config → P s → P (s.applyPosition p)
  lane : ∀ s l q, P s → P (s.applyLane l q)
  valve : ∀ s v q, 1 ≤ q.maxOpen → s.configurable v = true → P s → P (s.applyValve v q)
  hold : ∀ s v d, P s → P (s.putValve v { s.valve v with pendingDuty := d })
  test : ∀ s v d, 1 ≤ d → d ≤ (s.valve v).cfg.maxOpen → s.drive.rail = .normal → (s.valve v).state = .idle →
    (∀ why, s.ctrl.line ≠ .halted why) → P s → P (s.startTest v d)
  enable : ∀ s v, P s → P (s.enableValve v)
  disable : ∀ s v, P s → P (s.disableValve v)
  arm : ∀ s, s.ctrl.line = .config → P s → P s.armLine
  disarm : ∀ s, P s → P s.disarmLine
  verdict : ∀ s r c ps placed, s.ctrl.line = .armed → s.record? r.tag = some r → r.progress = .awaiting c →
    (∀ p ∈ ps, s.isDisabled p.valve = false) → s.admission r.tag ps = .admitted placed → P s →
    P ({ s with sched := placed }.decide r.tag c .verdict ps)
  pass : ∀ s r c, s.ctrl.line = .armed → s.record? r.tag = some r → r.progress = .awaiting c → P s →
    P (s.decide r.tag c .cancel [])
  cancel : ∀ s tag, s.ctrl.line = .armed → P s → P (s.cancelRemoval tag)

namespace KeptByRequests

variable {P : State → Prop}

/-- Steps 5 to 9 of a VERDICT keep it (Table 4-2). -/
theorem takeTargets (h : KeptByRequests P) {s : State} {r : ItemRecord} {c : Closing} (ts : List Target)
    (hl : s.ctrl.line = .armed) (hr : s.record? r.tag = some r) (hc : r.progress = .awaiting c) (hs : P s) :
    P (s.takeTargets r c ts).state := by
  unfold State.takeTargets
  dsimp only
  split
  · exact hs
  split
  · exact hs
  rename_i enabled
  split
  · exact hs
  split
  · exact hs
  split
  · exact hs
  · exact hs
  · rename_i admitted
    refine h.verdict s r c _ _ hl hr hc (fun p hp => ?_) admitted hs
    simpa using firstFailing_eq_none.mp enabled p hp

/-- A VERDICT keeps it (R74). -/
theorem runVerdict (h : KeptByRequests P) (p : List Byte) {s : State} (hs : P s) : P (runVerdict p s).state := by
  unfold Machine.runVerdict
  split
  · exact hs
  rename_i armed
  split
  · exact hs
  rename_i r hr
  split
  case h_4 c hc =>
    unfold State.takeVerdict
    split
    · exact hs
    dsimp only
    split
    · exact hs
    · exact h.takeTargets _ (Classical.not_not.mp armed) ((State.tag_of_record? hr) ▸ hr) hc hs
  all_goals exact hs

/-- A CANCEL keeps it (R84). -/
theorem runCancel (h : KeptByRequests P) (p : List Byte) {s : State} (hs : P s) : P (runCancel p s).state := by
  unfold Machine.runCancel
  split
  · exact hs
  rename_i armed
  replace armed := Classical.not_not.mp armed
  split
  · exact hs
  rename_i r hr
  split
  · exact hs
  · rename_i c hc
    exact h.pass s r c armed ((State.tag_of_record? hr) ▸ hr) hc hs
  · dsimp only [State.withdraw]
    exact h.cancel s _ armed hs
  · dsimp only [State.withdraw]
    exact h.cancel s _ armed hs

/-- A TEST_FIRE keeps it (R136). -/
theorem runTestFire (h : KeptByRequests P) (p : List Byte) {s : State} (hs : P s) : P (runTestFire p s).state := by
  unfold Machine.runTestFire
  split
  · exact hs
  rename_i notHalted
  split
  · exact hs
  split
  · exact hs
  rename_i range
  split
  · exact hs
  split
  · exact hs
  rename_i rail
  split
  · exact hs
  rename_i idle
  have hrail : s.drive.rail = .normal := by
    cases e : s.drive.rail
    · rfl
    · exact absurd e rail
  simp only [not_or, Classical.not_not] at idle
  exact h.test s _ _ (by omega) (by omega) hrail idle.1 notHalted hs

/-- Marking and clearing flags keep it (R156, R158). -/
theorem foldl_putFlag (h : KeptByRequests P) {op : State → FaultFlag → State}
    (writes : ∀ t f, ∃ x, op t f = t.putFlag f x) (fs : List FaultFlag) {s : State} (hs : P s) : P (fs.foldl op s) := by
  rw [State.foldl_putFlag_frame writes]
  exact h.ofBlocks s _ ⟨rfl, rfl, rfl, rfl, rfl, rfl, rfl, rfl, id⟩ hs

/-- Every request keeps it (Table 8-4). -/
theorem handRequest (h : KeptByRequests P) (k : RequestKind) (p : List Byte) {s : State} (hs : P s) :
    P (handRequest k p s).state := by
  cases k with
  | ident | queryItem | queryValve =>
    simp only [Machine.handRequest, runIdent, runQueryItem, runQueryValve]
    repeat' split
    all_goals exact hs
  | status =>
    dsimp only [Machine.handRequest, runStatus, State.answer]
    exact h.foldl_putFlag (fun t f => ⟨_, t.markFlag_eq f⟩) _ hs
  | clearFaults =>
    simp only [Machine.handRequest, runClearFaults]
    split
    · exact hs
    · dsimp only [State.answer]
      exact h.foldl_putFlag (fun t f => ⟨_, t.clearFlag_eq f⟩) _ hs
  | setLink =>
    simp only [Machine.handRequest, runSetLink]
    split <;> exact hs
  | setNotices | reset => exact h.ofBlocks s _ (s.sameBlocks_link _ id) hs
  | setLine =>
    simp only [Machine.handRequest, runSetLine]
    split
    · exact hs
    rename_i config
    split
    · rename_i q hq
      exact h.line s q (parseLine_wf hq) (Classical.not_not.mp config) hs
    · exact hs
  | setLane =>
    simp only [Machine.handRequest, runSetLane]
    split
    · exact h.lane s _ _ hs
    · exact hs
  | setValve =>
    simp only [Machine.handRequest, runSetValve]
    split
    · exact hs
    split
    · exact hs
    rename_i configurable
    split
    · rename_i q hq
      exact h.valve s _ q (parseValve_maxOpen hq) (by simpa using configurable) hs
    · exact hs
  | setHold =>
    simp only [Machine.handRequest, runSetHold]
    split
    · exact hs
    split
    · exact hs
    · exact h.hold s _ _ hs
  | setPosition =>
    simp only [Machine.handRequest, runSetPosition]
    split
    · exact hs
    · rename_i config
      exact h.position s _ (Classical.not_not.mp config) hs
  | arm =>
    simp only [Machine.handRequest, runArm]
    split
    · exact hs
    rename_i config
    split
    · exact hs
    split
    · exact hs
    · exact h.arm s (Classical.not_not.mp config) hs
  | disarm =>
    simp only [Machine.handRequest, runDisarm]
    split
    · exact hs
    · exact h.disarm s hs
  | verdict => exact h.runVerdict p hs
  | cancel => exact h.runCancel p hs
  | testFire => exact h.runTestFire p hs
  | enableValve =>
    simp only [Machine.handRequest, runEnableValve]
    split
    · exact hs
    · exact h.enable s _ hs
  | disableValve =>
    simp only [Machine.handRequest, runDisableValve]
    split
    · exact hs
    split
    · exact hs
    · exact h.disable s _ hs

/-- Executing a request keeps it (R168). -/
theorem execute (h : KeptByRequests P) (f : Frame) {s : State} (hs : P s) : P (s.execute f) := by
  have answered : P (answerFrame f s).state := by
    unfold answerFrame
    split
    · exact hs
    split
    · exact h.handRequest _ _ hs
    · exact hs
  exact h.ofBlocks (answerFrame f s).state _ (State.sameBlocks_link _ _ id) answered

/-- Executing the oldest request keeps it (R168). -/
theorem executeOldest (h : KeptByRequests P) {s : State} (hs : P s) : P s.executeOldest := by
  unfold State.executeOldest
  split
  · rename_i hq _ _
    refine h.execute _ (h.ofBlocks s _ (s.sameBlocks_link _ fun ⟨two, hn⟩ => ⟨?_, hn⟩) hs)
    rw [hq, List.length_cons] at two
    exact Nat.le_of_succ_le two
  · exact hs

/-- A complete frame keeps it (R167). -/
theorem acceptFrame (h : KeptByRequests P) (f : Frame) {s : State} (hs : P s) : P (s.acceptFrame f) := by
  refine h.executeOldest ?_
  unfold State.offerFrame
  split
  · rename_i room
    refine h.ofBlocks s _ (s.sameBlocks_link _ fun ⟨_, hn⟩ => ⟨?_, hn⟩) hs
    rw [List.length_append]
    exact room
  · exact h.ofBlocks s _ (s.sameBlocks_occur _) hs

/-- A received character keeps it (R164 to R166). -/
theorem receive (h : KeptByRequests P) (b : Byte) (bit : Level) (stop : StopBit) {s : State} (hs : P s) :
    P (s.receive b bit stop) := by
  have failed : ∀ t : State, P t → P t.frameFailed := fun t ht =>
    h.ofBlocks _ _ (State.sameBlocks_occur _ _) (h.ofBlocks t _ (t.sameBlocks_link _ id) ht)
  have putRx : ∀ (t : State) r, P t → P (t.putRx r) := fun t r ht =>
    h.ofBlocks t _ (t.sameBlocks_link _ id) ht
  have h1 : P { s with pins := { s.pins with rxd := lineBehind stop } } :=
    h.ofBlocks s _ (s.sameBlocks_outside _ _) hs
  unfold State.receive
  dsimp only
  split
  · split
    · exact putRx _ _ h1
    · exact h1
  · split
    · exact failed _ h1
    · unfold State.collect
      split
      · exact putRx _ _ h1
      · exact h.acceptFrame _ (putRx _ _ h1)
      · exact failed _ h1
  · exact putRx _ _ h1

/-- The start of a transmission keeps it: the next request may execute (R168, R174). -/
theorem transmitBegins (h : KeptByRequests P) {s : State} (hs : P s) : P s.transmitBegins := by
  unfold State.transmitBegins
  split
  · exact hs
  split
  · exact h.executeOldest (h.ofBlocks s _ (s.sameBlocks_link _ id) hs)
  · refine h.ofBlocks s _ (s.sameBlocks_link _ fun ⟨hq, hn⟩ => ?_) hs
    unfold Link.beginNotice
    split
    · rename_i n ns e
      rw [e, List.length_cons] at hn
      exact ⟨hq, Nat.le_of_succ_le hn⟩
    · exact ⟨hq, hn⟩

end KeptByRequests

/-! ### Events -/

/-- The operations of requests, resets, events and the time base keep a property. -/
structure KeptByEvents (P : State → Prop) : Prop extends KeptByRequests P where
  reset : ∀ s cause settings, P (State.resetPart s cause settings)
  time : ∀ s, P s → P s.advanceTime
  sample : ∀ s p, P s → P (s.sampleEncoder p)
  stepTimed : ∀ s, P s → P s.stepTimed
  stepEstimated : ∀ s, P s → P s.stepEstimated
  runFilter : ∀ s level, P s → P (s.runFilterExpiry level)
  effect : ∀ s e, P s → P (LineEffect.fire s e)
  eye : ∀ s l level, P s → P (s.sampleEye l level)
  debounce : ∀ s l, P s → P (s.debounce l)
  pullIn : ∀ s v, P s → P (s.pullInExpiry v)
  overtime : ∀ s v, P s → P (s.overtimeOf v)
  testEnd : ∀ s v, P s → P (s.testEndOf v)
  lastMicro : ∀ s v, P s → P (s.lastMicro v)
  period : ∀ s v, P s → P (s.periodStart v)
  onTime : ∀ s v, P s → P (s.onTimeEnd v)
  railFalls : ∀ s, P s → P s.railFalls
  railRises : ∀ s, P s → P s.railRises

namespace KeptByEvents

variable {P : State → Prop}

/-- The end of a transmission keeps it: a RESET reply leads to the reset (R175, R177). -/
theorem transmitEnds (h : KeptByEvents P) {s : State} (hs : P s) : P s.transmitEnds := by
  unfold State.transmitEnds
  split
  · exact hs
  split
  · exact h.ofBlocks s _ (s.sameBlocks_link _ id) hs
  · exact h.ofBlocks s _ (s.sameBlocks_link _ id) hs
  · exact h.reset _ _ _

/-- The link's gap and idle timers keep it (R165, R166). -/
theorem linkTimers (h : KeptByEvents P) {s : State} (hs : P s) : P s.gapTimerExpired ∧ P s.idleTimerExpired := by
  have putRx : P (s.putRx .hunt) := h.ofBlocks s _ (s.sameBlocks_link _ id) hs
  constructor
  · unfold State.gapTimerExpired
    split
    · exact putRx
    · exact hs
    · exact hs
  · unfold State.idleTimerExpired
    split
    · exact putRx
    · exact hs

/-- Whatever is due keeps it when it happens. -/
theorem fire (h : KeptByEvents P) (d : Due) {s : State} (hs : P s) : P (d.fire s) := by
  cases d with
  | encoderSample => exact h.sample s _ hs
  | generatorStep =>
    change P s.stepGenerator
    unfold State.stepGenerator
    split
    · exact h.stepTimed s hs
    · exact h.stepEstimated s hs
  | runFilter => exact h.runFilter s _ hs
  | line e => exact h.effect s e hs
  | eyeSample l => exact h.eye s l _ hs
  | debounce l => exact h.debounce s l hs
  | pullIn v => exact h.pullIn s v hs
  | activeEnd v _ => exact h.lastMicro s v hs
  | periodStart v => exact h.period s v hs
  | onTimeEnd v => exact h.onTime s v hs
  | railLow => exact h.railFalls s hs
  | railNormal => exact h.railRises s hs
  | linkGap => exact (h.linkTimers hs).1
  | linkIdle => exact (h.linkTimers hs).2
  | transmitStart => exact h.transmitBegins hs
  | transmitEnd => exact h.transmitEnds hs

/-- One microsecond keeps it: time advances, then what is due happens, in any order. -/
theorem tick (h : KeptByEvents P) {s : State} (hs : P s) : P s.tick := by
  have settled : P (s.advanceTime.settle ((Due.all s).filter (Due.listed s.advanceTime))).2 :=
    h.ofBlocks _ _ (State.sameBlocks_settle _ _) (h.time s hs)
  have fired : P _ := foldl_keeps (P := P) (f := Due.fireIfDue) (fun t d ht => by
    unfold Due.fireIfDue
    split
    · exact h.fire d ht
    · exact ht) (s.advanceTime.settle ((Due.all s).filter (Due.listed s.advanceTime))).1 _ settled
  change P (State.arbiter _)
  unfold State.arbiter
  split
  · exact h.transmitBegins fired
  · exact fired

/-- Every command keeps it. -/
theorem exec (h : KeptByEvents P) (i : Instr) {s t : State} (hs : P s) (ht : exec i s = .next t) : P t := by
  have blind : ∀ u : State, SameBlocks s u → P u := fun u hu => h.ofBlocks s u hu hs
  cases hf : i.frame? with
  | some f =>
    rw [exec_of_frame i f s hf] at ht
    cases ht
    exact h.acceptFrame f hs
  | none =>
    cases i <;> try (cases hf; done)
    all_goals injection ht with ht; subst ht
    case none.powerOnReset => exact h.reset _ _ _
    case none.pinReset n =>
      split
      · exact h.reset _ _ _
      · exact hs
    case none.quadratureCount | none.pulseDirCount | none.encPhase | none.fallingEncA => exact h.sample s _ hs
    case none.timedStep => exact h.stepTimed s hs
    case none.estimatedStep => exact h.stepEstimated s hs
    case none.runChange => exact h.runFilter s _ hs
    case none.stopTimerExpiry => exact h.effect s .stop hs
    case none.lossTimerExpiry => exact h.effect s .loss hs
    case none.limitTimerExpiry => exact h.effect s .limit hs
    case none.confirmingGap => exact h.effect s .gap hs
    case none.silenceTimerExpiry => exact h.effect s .silence hs
    case none.eyeRawChange => exact h.eye _ _ _ (blind _ (s.sameBlocks_outside _ _))
    case none.debounceExpiry => exact h.debounce s _ hs
    case none.pullInTimerExpiry => exact h.pullIn s _ hs
    case none.overtime => exact h.overtime s _ hs
    case none.testEnd => exact h.testEnd s _ hs
    case none.pwmPeriodStart => exact h.period s _ hs
    case none.pwmOnTimeEnd => exact h.onTime s _ hs
    case none.railLowEntry =>
      split
      · exact h.railFalls _ (blind _ (s.sameBlocks_outside _ _))
      · exact hs
    case none.railNormalEntry =>
      split
      · exact h.railRises _ (blind _ (s.sameBlocks_outside _ _))
      · exact hs
    case none.frameComplete | none.frameError | none.characterReceived => exact h.receive _ _ _ hs
    case none.gapTimerExpiry => exact (h.linkTimers hs).1
    case none.idleTimerExpiry => exact (h.linkTimers hs).2
    case none.transmitStart => exact h.transmitBegins hs
    case none.transmitEnd => exact h.transmitEnds hs

/-- Every step keeps it. -/
theorem step (h : KeptByEvents P) {s t : State} (hs : P s) (ht : step s = .next t) : P t := by
  unfold Machine.step at ht
  split at ht
  · cases ht
    exact h.tick hs
  · rename_i c rest _
    exact h.exec c (s := { s with pending := rest }) (h.ofBlocks s _ (s.sameBlocks_outside _ _) hs) ht

end KeptByEvents

end Sys2Proof.Machine
end

section
/-! PROOFS. The invariant of the Belt Position Unit (chapter 1): what each of its operations does to the belt, and that
each keeps the ranges and the source, motion and timers in step. -/

namespace Sys2Proof.Machine

/-! ### The belt after the operations of the Belt Position Unit -/

@[simp] theorem State.belt_countEncoder (s : State) (d : Dir) :
    (s.countEncoder d).belt = s.belt.encoderCount d s.now := by
  simp [State.countEncoder]

@[simp] theorem State.belt_countGenerated (s : State) (k : UpdateKind) :
    (s.countGenerated k).belt = s.belt.generatedCount := by
  simp [State.countGenerated]

@[simp] theorem State.belt_enterLost (s : State) (cause : LostCause) : (s.enterLost cause).belt = s.belt.lose := by
  simp [State.enterLost]

@[simp] theorem State.belt_lineNewMode (s : State) (q : LineParams) :
    (s.lineNewMode q).belt = s.belt.changeMode q := by
  simp [State.lineNewMode]

@[simp] theorem State.belt_applyPosition (s : State) (p : Pos) :
    (s.applyPosition p).belt = { s.belt with position := p } := by
  simp [State.applyPosition]

/-! ### Speeds (R19) -/

/-- A measured speed is at most 500,000 counts per second (R19). -/
theorem measuredSpeed_le (history : List Nat) : measuredSpeed history ≤ 500000 := by
  unfold measuredSpeed
  split
  · omega
  split
  · exact Nat.le_refl _
  · exact Nat.min_le_right _ _

/-- With its parameters and its frozen speed in range the belt reports a speed in range (Table 1-4). -/
theorem Belt.speed_le {b : Belt} (hp : b.par.wf) (hf : b.frozen ≤ 500000) : b.speed ≤ 500000 := by
  obtain ⟨_, _, _, _, ht, _⟩ := hp
  unfold Belt.speed
  split
  case h_3 => omega
  case h_4 => exact hf
  case h_5 =>
    split
    · exact hf
    · exact measuredSpeed_le _
  case h_2 | h_6 => exact measuredSpeed_le _
  all_goals exact Nat.zero_le _

/-! ### The parts of the belt's invariant -/

/-- The source is TIMED exactly in the mode TIMED (R27). -/
theorem Belt.timed_iff {b : Belt} (h : b.wf) : b.source = .timed ↔ b.par.mode = .timed := by
  obtain ⟨_, ⟨htimed, _⟩, _⟩ := h
  exact htimed

/-- The timers run where their rules let them. -/
theorem Belt.timers_of_wf {b : Belt} (h : b.wf) : b.timersWf := by
  obtain ⟨_, _, _, htimers, _⟩ := h
  exact htimers

/-- The accumulator stays below the threshold. -/
theorem Belt.acc_of_wf {b : Belt} (h : b.wf) : b.accWf := by
  obtain ⟨_, _, _, _, hacc, _⟩ := h
  exact hacc

/-- The reversal threshold is at least 1 (Table 1-2). -/
theorem LineParams.reversal_pos {p : LineParams} (h : p.wf) : 1 ≤ p.reversal := h.1.1

/-! ### One count -/

/-- What feeding a count to the accumulator can do: it writes motion and accumulator alone, keeps the accumulator within
its bounds, never stops the belt, and a forward count never turns it to REVERSE (R14, R15). -/
theorem Belt.feed_eq (b : Belt) (d : Dir) (hr : 1 ≤ b.par.reversal) (ha : b.accWf) : ∃ m a,
    b.feed d = { b with motion := m, acc := a } ∧
    (a < b.par.reversal ∧ -(b.par.reversal : Int) < a ∧ (m ≠ .stopped → 0 ≤ a)) ∧
    (b.motion ≠ .stopped → m ≠ .stopped) ∧
    (d = .forward → b.motion ≠ .reverse → m ≠ .reverse) ∧
    (d = .forward → b.motion = .forward → m = .forward) := by
  obtain ⟨below, above, moving⟩ := ha
  cases hm : b.motion <;> cases d <;> unfold Belt.feed <;> rw [hm] <;> dsimp only <;> split <;>
    refine ⟨_, _, rfl, ?_, ?_, ?_, ?_⟩ <;> simp_all <;> omega

/-- A count that is timed keeps the history within its bounds (R18). -/
theorem pushInterval_fits {history : List Nat} (i : Nat) (hl : history.length ≤ 8) (hi : ∀ j ∈ history, j ≤ 1000000) :
    (pushInterval history i).length ≤ 8 ∧ ∀ j ∈ pushInterval history i, j ≤ 1000000 := by
  unfold pushInterval
  constructor
  · split
    · simp only [List.length_append, List.length_drop, List.length_singleton]
      omega
    · rename_i short
      simp only [List.length_append, List.length_singleton]
      change ¬ 8 ≤ history.length at short
      omega
  · intro j hj
    rcases List.mem_append.mp hj with hj | hj
    · split at hj
      · exact hi j (List.mem_of_mem_drop hj)
      · exact hi j hj
    · rw [List.mem_singleton.mp hj]
      exact Nat.min_le_right _ _

/-- Timing a count writes the history and the last count alone, and keeps the history within its bounds (R18). -/
theorem Belt.time_eq (b : Belt) (d : Dir) (now : Nat) (hl : b.history.length ≤ 8)
    (hi : ∀ j ∈ b.history, j ≤ 1000000) : ∃ history last, b.time d now = { b with history := history, last := last } ∧
      history.length ≤ 8 ∧ ∀ j ∈ history, j ≤ 1000000 := by
  refine ⟨_, _, rfl, ?_⟩
  split
  · split
    · exact pushInterval_fits _ hl hi
    · exact ⟨hl, hi⟩
  · exact ⟨hl, hi⟩

/-- The belt while a count of an encoder passes through it: any motion and accumulator in range, a history in range. -/
theorem Belt.wf_confirm_restart {b : Belt} (h : b.wf) (ht : b.source ≠ .timed) (p : Pos) {m : Motion} {a : Int}
    {history : List Nat} (last : Option LastCount)
    (ha : a < b.par.reversal ∧ -(b.par.reversal : Int) < a ∧ (m ≠ .stopped → 0 ≤ a))
    (hm : b.motion ≠ .stopped → m ≠ .stopped) (hl : history.length ≤ 8) (hi : ∀ j ∈ history, j ≤ 1000000) :
    ({ b with position := p, motion := m, acc := a, history := history,
              last := last }.confirm.restartStop.restartLoss).wf := by
  obtain ⟨hpar, ⟨htimed, _⟩, ⟨hlost, hest, hrun⟩, ⟨_, hloss, hlimit, hexp, hsil⟩, _, _, _, hfrozen, _, hcount⟩ := h
  have hmode : b.par.mode ≠ .timed := fun e => ht (htimed.mpr e)
  have speed : ∀ c : Belt, c.par = b.par → c.frozen ≤ 500000 → c.speed ≤ 500000 := fun c hp hf =>
    Belt.speed_le (hp ▸ hpar) hf
  cases hs : b.source with
  | timed => exact absurd hs ht
  | encoder =>
    simp only [Belt.confirm, Belt.restartStop, Belt.restartLoss]
    refine ⟨hpar, ?_, ?_, ?_, ha, hl, hi, hfrozen, speed _ rfl hfrozen, rfl⟩ <;> cases run : b.run <;>
      simp_all [Belt.timedWf, Belt.sourceWf, Belt.timersWf, Source.kind, Source.estimating]
  | estimate =>
    simp only [Belt.confirm, Belt.restartStop, Belt.restartLoss]
    refine ⟨hpar, ?_, ?_, ?_, ha, hl, hi, hfrozen, speed _ rfl hfrozen, rfl⟩ <;>
      simp_all [Belt.timedWf, Belt.sourceWf, Belt.timersWf, Source.kind, Source.estimating]
  | lost =>
    simp only [Belt.confirm, Belt.restartStop, Belt.restartLoss]
    refine ⟨hpar, ?_, ?_, ?_, ha, hl, hi, hfrozen, speed _ rfl hfrozen, rfl⟩ <;>
      simp_all [Belt.timedWf, Belt.sourceWf, Belt.timersWf, Source.kind, Source.estimating]
  | confirming c =>
    simp only [Belt.confirm]
    split
    · simp only [Belt.restartStop, Belt.restartLoss]
      refine ⟨hpar, ?_, ?_, ?_, ha, hl, hi, Nat.zero_le _, speed _ rfl (Nat.zero_le _), rfl⟩ <;> cases run : b.run <;>
        simp_all [Belt.timedWf, Belt.sourceWf, Belt.timersWf, Source.kind, Source.estimating]
    · rename_i few
      have fourth : 1 ≤ c.count + 1 ∧ c.count + 1 ≤ 3 := by
        change ¬ 4 ≤ c.count + 1 at few
        omega
      simp only [Belt.restartStop, Belt.restartLoss]
      refine ⟨hpar, ?_, ?_, ?_, ha, hl, hi, hfrozen, speed _ rfl hfrozen, decide_eq_true fourth⟩ <;>
        simp_all [Belt.timedWf, Belt.sourceWf, Belt.timersWf, Source.kind, Source.estimating]

/-- An encoder count outside TIMED keeps the belt's invariant (R11, R14, R15, R18, R20 to R25). -/
theorem Belt.wf_encoderCount {b : Belt} (h : b.wf) (ht : b.source ≠ .timed) (d : Dir) (now : Nat) :
    (b.encoderCount d now).wf := by
  have hwf := h
  obtain ⟨⟨⟨hr, _⟩, _⟩, _, _, _, hacc, hl, hi, _⟩ := h
  obtain ⟨m, a, hfeed, ha, hm, _⟩ := (b.move d).feed_eq d hr hacc
  obtain ⟨history, last, htime, hl', hi'⟩ := ((b.move d).feed d).time_eq d now (by rw [hfeed]; exact hl)
    (by rw [hfeed]; exact hi)
  unfold Belt.encoderCount
  rw [htime, hfeed]
  exact Belt.wf_confirm_restart hwf ht _ last ha hm hl' hi'

/-- A generated count keeps the belt's invariant, with the fraction it takes from the generator (R9, R21, R27). -/
theorem Belt.wf_generatedCount {b : Belt} (h : b.wf) (hs : b.source = .timed ∨ b.source = .estimate) :
    b.generated.generatedCount.wf := by
  obtain ⟨hpar, ⟨htimed, hrev⟩, ⟨hlost, hest, hrun⟩, ⟨hstop, hloss, hlimit, hexp, hsil⟩, hacc, hl, hi, hfrozen, _, hcount⟩ := h
  obtain ⟨m, a, hfeed, ha, hm, hnr, hfw⟩ := (b.generated.move .forward).feed_eq .forward (LineParams.reversal_pos hpar) hacc
  unfold Belt.generatedCount
  rw [hfeed]
  refine ⟨hpar, ⟨htimed, fun e => hnr rfl (hrev e)⟩, ⟨fun e => ?_, fun e => hfw rfl (hest e), hrun⟩,
    ⟨fun e => ?_, hloss, hlimit, hexp, hsil⟩, ha, hl, hi, hfrozen, Belt.speed_le hpar hfrozen, hcount⟩
  · rcases hs with hs | hs <;> exact absurd (hs.symm.trans e) (by decide)
  · obtain ⟨hk, hrun', hmove⟩ := hstop e
    exact ⟨hk, hrun', hm hmove⟩

/-! ### Stopping, losing, estimating -/

/-- The accumulator of a stopped belt may stand at 0 (R16). -/
theorem Belt.accWf_zero {b : Belt} (hr : 1 ≤ b.par.reversal) (ha : b.acc = 0) : b.accWf := by
  unfold Belt.accWf
  omega

/-- Entering STOPPED keeps the belt's invariant, but in ESTIMATE, which is FORWARD (R16, R18). -/
theorem Belt.wf_stop {b : Belt} (h : b.wf) (hs : b.source ≠ .estimate) : b.stop.wf := by
  obtain ⟨hpar, ⟨htimed, hrev⟩, ⟨hlost, hest, hrun⟩, ⟨hstop, hloss, hlimit, hexp, hsil⟩, hacc, hl, hi, hfrozen, _, hcount⟩ := h
  unfold Belt.stop
  split
  · exact ⟨hpar, ⟨htimed, hrev⟩, ⟨hlost, hest, hrun⟩, ⟨by simp, hloss, hlimit, hexp, hsil⟩, hacc, hl, hi, hfrozen,
      Belt.speed_le hpar hfrozen, hcount⟩
  · exact ⟨hpar, ⟨htimed, by simp⟩, ⟨fun e => ⟨rfl, (hlost e).2⟩, fun e => absurd e hs, hrun⟩,
      ⟨by simp, hloss, hlimit, hexp, hsil⟩, Belt.accWf_zero (LineParams.reversal_pos hpar) rfl, by simp, by simp, hfrozen,
      Belt.speed_le hpar hfrozen, hcount⟩

/-- What an entry into LOST leaves of the belt, whatever its motion was (R20, R22, R24). -/
theorem Belt.lose_eq (b : Belt) : b.lose =
    { b with motion := .stopped, acc := if b.motion = .stopped then b.acc else 0, history := [], last := none,
             stopTimer := none, source := .lost, gen := none, lossTimer := none, limitTimer := none,
             limitExpired := false, frozen := 0 } := by
  unfold Belt.lose Belt.stop
  split
  · rename_i hm
    rw [← hm]
  · rfl

/-- An entry into LOST outside the mode TIMED meets the belt's invariant, if no silence timer runs (R20, R22, R24,
R25). -/
theorem Belt.wf_lose {b : Belt} (hpar : b.par.wf) (hmode : b.par.mode ≠ .timed) (hacc : b.accWf)
    (hsil : b.silenceTimer = none) : b.lose.wf := by
  rw [Belt.lose_eq]
  refine ⟨hpar, ?_, ?_, ?_, ?_, ?_⟩
  · simpa [Belt.timedWf] using hmode
  · simp [Belt.sourceWf, Source.estimating]
  · simp [Belt.timersWf, hsil]
  · split
    · obtain ⟨below, above, _⟩ := hacc
      exact ⟨below, above, by simp⟩
    · exact Belt.accWf_zero (LineParams.reversal_pos hpar) rfl
  · exact ⟨by simp, by simp, Nat.zero_le _, Belt.speed_le hpar (Nat.zero_le _), rfl⟩

/-- The silence timer runs in LOST alone (R25). -/
theorem Belt.silenceTimer_eq_none {b : Belt} (h : b.wf) (hs : b.source ≠ .lost) : b.silenceTimer = none := by
  obtain ⟨_, _, _, ⟨_, _, _, _, hsil⟩, _⟩ := h
  exact Classical.byContradiction fun e => hs (hsil e).1

/-- Entering ESTIMATE from ENCODER, FORWARD with RUN active, keeps the belt's invariant (R21). -/
theorem Belt.wf_estimate {b : Belt} (h : b.wf) (hs : b.source = .encoder) (hrun : b.run = true)
    (hm : b.motion = .forward) : b.estimate.wf := by
  have hsil := Belt.silenceTimer_eq_none h (by rw [hs]; decide)
  obtain ⟨hpar, ⟨htimed, _⟩, _, _, hacc, _, _, _, hspeed, _⟩ := h
  have hmode : b.par.mode ≠ .timed := fun e => by rw [htimed.mpr e] at hs; cases hs
  refine ⟨hpar, ?_, ?_, ?_, hacc, by simp [Belt.estimate], by simp [Belt.estimate], hspeed,
    Belt.speed_le hpar hspeed, rfl⟩
  · simpa [Belt.timedWf, Belt.estimate] using hmode
  · simp [Belt.sourceWf, Belt.estimate, hm, hrun]
  · simp [Belt.timersWf, Belt.estimate, hsil, Source.estimating]

/-- Returning to ESTIMATE from a CONFIRMING begun there keeps the belt's invariant (R24). -/
theorem Belt.wf_estimateAgain {b : Belt} {c : Confirmation} (h : b.wf) (hs : b.source = .confirming c)
    (ho : c.origin = .estimate) (hx : b.limitExpired = false) (hm : b.motion = .forward) : b.estimateAgain.wf := by
  have hsil := Belt.silenceTimer_eq_none h (by rw [hs]; simp)
  obtain ⟨hpar, ⟨htimed, _⟩, ⟨_, _, hrun⟩, ⟨_, hloss, hlimit, _⟩, hacc, _, _, hfrozen, _⟩ := h
  have hmode : b.par.mode ≠ .timed := fun e => by rw [htimed.mpr e] at hs; cases hs
  have hrun' : b.run = true := hrun (by simp [hs, Source.estimating, ho])
  refine ⟨hpar, ?_, ?_, ?_, hacc, by simp [Belt.estimateAgain], by simp [Belt.estimateAgain], hfrozen,
    Belt.speed_le hpar hfrozen, rfl⟩
  · simpa [Belt.timedWf, Belt.estimateAgain] using hmode
  · simp [Belt.sourceWf, Belt.estimateAgain, hm, hrun']
  · have hl : b.lossTimer = none := by
      refine Classical.byContradiction fun e => ?_
      rw [(hloss e).1] at hs
      cases hs
    simp [Belt.timersWf, Belt.estimateAgain, hsil, hl, hx, Source.estimating]

/-! ### RUN -/

/-- RUN becoming active keeps the belt's invariant (R9, R16, R20, R25). -/
theorem Belt.wf_runOn {b : Belt} (h : b.wf) : b.runOn.wf := by
  obtain ⟨hpar, htimed, hsource, htimers, hacc, hcounts⟩ := h
  obtain ⟨hl, hi, hfrozen, _, hcount⟩ := hcounts
  have speed : ∀ c : Belt, c.par = b.par → c.frozen = b.frozen → c.speed ≤ 500000 := fun c hp hf =>
    Belt.speed_le (hp ▸ hpar) (hf ▸ hfrozen)
  cases hs : b.source <;> unfold Belt.runOn <;> rw [hs] <;> dsimp only <;> try split
  all_goals
    refine ⟨hpar, ?_, ?_, ?_, hacc, hl, hi, hfrozen, speed _ rfl rfl, by simpa [hs] using hcount⟩ <;>
      simp_all [Belt.timedWf, Belt.sourceWf, Belt.timersWf, Source.kind, Source.estimating]

/-- RUN becoming inactive keeps the belt's invariant, where no estimate rests on it (R16, R20, R25). -/
theorem Belt.wf_runOff {b : Belt} (h : b.wf) (he : b.source.estimating = false) : b.runOff.wf := by
  obtain ⟨hpar, htimed, ⟨hlost, hest, _⟩, ⟨hstop, _, hlimit, hexp, _⟩, hacc, hl, hi, hfrozen, _, hcount⟩ := h
  refine ⟨hpar, htimed, ⟨hlost, hest, fun e => absurd (he.symm.trans e) (by decide)⟩, ⟨fun e => ?_, by simp [Belt.runOff], hlimit, hexp,
    by simp [Belt.runOff]⟩, hacc, hl, hi, hfrozen, Belt.speed_le hpar hfrozen, hcount⟩
  obtain ⟨hk, _, hm⟩ := hstop e
  exact ⟨hk, rfl, hm⟩

/-- The source is TIMED exactly in the mode TIMED. -/
theorem Belt.mode_ne_timed {b : Belt} (h : b.wf) (hs : b.source ≠ .timed) : b.par.mode ≠ .timed :=
  fun e => hs (Belt.timed_iff h |>.mpr e)

/-- An entry into LOST from ENCODER, ESTIMATE or CONFIRMING keeps the belt's invariant. -/
theorem Belt.wf_lose_of_wf {b : Belt} (h : b.wf) (ht : b.source ≠ .timed) (hl : b.source ≠ .lost) : b.lose.wf :=
  Belt.wf_lose h.1 (Belt.mode_ne_timed h ht) (Belt.acc_of_wf h) (Belt.silenceTimer_eq_none h hl)

/-- What RUN becoming inactive does to the belt in ENCODER keeps its invariant: the stop timer starts (R16). -/
theorem Belt.wf_runOff_encoder {b : Belt} (h : b.wf) (hs : b.source = .encoder) : b.runOff.restartStop.wf := by
  obtain ⟨hpar, htimed, hsource, _, hacc, hl, hi, hfrozen, _, hcount⟩ := Belt.wf_runOff h (by rw [hs]; rfl)
  have hoff := Belt.wf_runOff h (by rw [hs]; rfl)
  obtain ⟨_, _, _, ⟨_, hloss, hlimit, hexp, hsil⟩, _⟩ := hoff
  refine ⟨hpar, htimed, hsource, ⟨fun e => ?_, hloss, hlimit, hexp, hsil⟩, hacc, hl, hi, hfrozen,
    Belt.speed_le hpar hfrozen, hcount⟩
  refine ⟨.inl (by simp [Belt.restartStop, Belt.runOff, hs, Source.kind]), rfl, fun hm => e ?_⟩
  replace hm : b.motion = .stopped := hm
  simp [Belt.restartStop, Belt.runOff, hs, hm]

/-- What RUN becoming inactive does to the belt in TIMED keeps its invariant: STOPPED, the generator stopped (R16, R27). -/
theorem Belt.wf_runOff_timed {b : Belt} (h : b.wf) (hs : b.source = .timed) : { b.runOff.stop with gen := none }.wf := by
  obtain ⟨hpar, htimed, ⟨hlost, hest, hrun⟩, htimers, hacc, hcounts⟩ :=
    Belt.wf_stop (Belt.wf_runOff h (by rw [hs]; rfl)) (by rw [Belt.runOff, hs]; decide)
  exact ⟨hpar, htimed, ⟨fun e => ⟨(hlost e).1, rfl⟩, hest, hrun⟩, htimers, hacc, hcounts⟩

/-! ### SET_LINE -/

/-- New parameters in the same mode with the accumulator at 0 keep the belt's invariant (R4). -/
theorem Belt.wf_newParams {b : Belt} {q : LineParams} (h : b.wf) (hq : q.wf) (hm : q.mode = b.par.mode) :
    { b with par := q, acc := 0 }.wf := by
  obtain ⟨_, ⟨htimed, hrev⟩, hsource, htimers, _, hl, hi, hfrozen, _, hcount⟩ := h
  exact ⟨hq, ⟨htimed.trans (by rw [hm]), hrev⟩, hsource, htimers, Belt.accWf_zero (LineParams.reversal_pos hq) rfl, hl, hi, hfrozen,
    Belt.speed_le hq hfrozen, hcount⟩

/-- A change of the encoder mode meets the belt's invariant (R5). -/
theorem Belt.wf_changeMode (b : Belt) {q : LineParams} (hq : q.wf) : (b.changeMode q).wf := by
  have speed : ∀ c : Belt, c.par = q → c.frozen = 0 → c.speed ≤ 500000 := fun c hp hf =>
    Belt.speed_le (hp ▸ hq) (by omega)
  by_cases hm : q.mode = .timed
  all_goals
    unfold Belt.changeMode
    refine ⟨hq, ?_, ?_, ?_, Belt.accWf_zero (LineParams.reversal_pos hq) rfl, by simp, by simp, Nat.zero_le _, speed _ rfl rfl, ?_⟩ <;>
      simp [hm, Belt.timedWf, Belt.sourceWf, Belt.timersWf, Source.estimating, Source.countWf]

/-! ### Time -/

/-- Time advancing keeps the belt's invariant: timers advance, none starts or stops. -/
theorem Belt.wf_tick {b : Belt} (h : b.wf) (pin : Level) : (b.tick pin).wf := by
  obtain ⟨hpar, htimed, hsource, htimers, hacc, hl, hi, hfrozen, _, hcount⟩ := h
  have kind : b.source.tick.kind = b.source.kind := by cases b.source <;> rfl
  have estimating : b.source.tick.estimating = b.source.estimating := by cases b.source <;> rfl
  have same : ∀ x : Source, (∀ c, x ≠ .confirming c) → (b.source.tick = x ↔ b.source = x) := by
    intro x hx
    cases hs : b.source <;> simp [Source.tick]
    all_goals exact ⟨fun e => absurd e.symm (hx _), fun e => absurd e.symm (hx _)⟩
  have lost := same .lost (by simp)
  have est := same .estimate (by simp)
  have timed := same .timed (by simp)
  have encoder := same .encoder (by simp)
  refine ⟨hpar, ?_, ?_, ?_, hacc, hl, hi, hfrozen, Belt.speed_le hpar hfrozen, ?_⟩
  · simpa [Belt.timedWf, Belt.tick, timed] using htimed
  · simpa [Belt.sourceWf, Belt.tick, lost, est, estimating] using hsource
  · simpa [Belt.timersWf, Belt.tick, lost, est, encoder, estimating, kind, tickTimer] using htimers
  · have : b.source.tick.countWf = b.source.countWf := by cases b.source <;> rfl
    exact this.trans hcount

/-! ### The events of the belt -/

/-- A count of an encoder as it comes keeps the belt's invariant outside TIMED (R23, R24). -/
theorem State.beltWf_gapExpiry {s : State} (h : s.belt.wf) : s.gapExpiry.belt.wf := by
  unfold State.gapExpiry
  split
  case h_1 c hs =>
    have lost : s.belt.lose.wf := Belt.wf_lose_of_wf h (by simp [hs]) (by simp [hs])
    split
    · unfold State.gapFromLost
      split
      · obtain ⟨hpar, htimed, hsource, ⟨hstop, hloss, hlimit, hexp, hsil⟩, hrest⟩ := lost
        have held : s.belt.silenceTimer = none := Belt.silenceTimer_eq_none h (by simp [hs])
        have none : s.belt.lose.silenceTimer = none := by rw [Belt.lose_eq]; exact held
        simp only [State.handMotion_frame, State.handLostAndSilence_frame, State.belt_putBelt]
        exact ⟨hpar, htimed, hsource, ⟨hstop, hloss, hlimit, hexp, fun e => absurd none e⟩, hrest⟩
      · simpa using lost
    · rename_i ho
      split
      · simpa using lost
      · rename_i hx
        split
        · rename_i hm
          simpa using Belt.wf_estimateAgain h hs ho (by simpa using hx) hm
        · simpa using lost
  all_goals exact h

/-- The silence timer's end keeps the belt's invariant (R25). -/
theorem State.beltWf_silenceExpiry {s : State} (h : s.belt.wf) : s.silenceExpiry.belt.wf := by
  unfold State.silenceExpiry
  split
  · obtain ⟨hpar, htimed, hsource, ⟨hstop, hloss, hlimit, hexp, _⟩, hrest⟩ := h
    simp only [State.takeSilence_frame, State.belt_putBelt]
    exact ⟨hpar, htimed, hsource, ⟨hstop, hloss, hlimit, hexp, by simp⟩, hrest⟩
  · exact h

/-- The stop timer's end keeps the belt's invariant (R16). -/
theorem State.beltWf_stopExpiry {s : State} (h : s.belt.wf) : s.stopExpiry.belt.wf := by
  unfold State.stopExpiry
  split
  · rename_i e he
    obtain ⟨hstop, _⟩ := Belt.timers_of_wf h
    obtain ⟨hk, _⟩ := hstop (by simp [he])
    simpa using Belt.wf_stop h (by rintro hs; simp [hs, Source.kind] at hk)
  · exact h

/-- The loss timer's end keeps the belt's invariant (R20, R21). -/
theorem State.beltWf_lossExpiry {s : State} (h : s.belt.wf) : s.lossExpiry.belt.wf := by
  unfold State.lossExpiry
  split
  · rename_i e he
    obtain ⟨_, hloss, _⟩ := Belt.timers_of_wf h
    obtain ⟨hs, hrun⟩ := hloss (by simp [he])
    split
    · rename_i hm
      simpa using Belt.wf_estimate h hs hrun hm.1
    · simpa using Belt.wf_lose_of_wf h (by simp [hs]) (by simp [hs])
  · exact h

/-- The limit timer's end keeps the belt's invariant (R22, R23). -/
theorem State.beltWf_limitExpiry {s : State} (h : s.belt.wf) : s.limitExpiry.belt.wf := by
  unfold State.limitExpiry
  split
  · rename_i e he
    obtain ⟨_, _, hlimit, _⟩ := Belt.timers_of_wf h
    have hest := hlimit (by simp [he])
    split
    · rename_i hs
      simpa using Belt.wf_lose_of_wf h (by simp [hs]) (by simp [hs])
    · rename_i c hs
      obtain ⟨hpar, htimed, hsource, ⟨hstop, hloss, _, _, hsil⟩, hacc, hl, hi, hfrozen, _, hcount⟩ := h
      exact ⟨hpar, htimed, hsource, ⟨hstop, hloss, by simp, fun _ => ⟨hest, by simp [hs]⟩, hsil⟩, hacc, hl, hi,
        hfrozen, Belt.speed_le hpar hfrozen, hcount⟩
    all_goals exact h
  · exact h

/-- A change of RUN keeps the belt's invariant (R10). -/
theorem State.beltWf_syncRun {s : State} (h : s.belt.wf) : s.syncRun.belt.wf := by
  have lost : s.belt.source ≠ .timed → s.belt.runOff.lose.wf := fun ht =>
    Belt.wf_lose (b := s.belt.runOff) h.1 (Belt.mode_ne_timed (b := s.belt) h ht)
      (Belt.acc_of_wf (b := s.belt) h) rfl
  unfold State.syncRun
  split
  · exact h
  split
  · exact Belt.wf_runOn h
  dsimp only
  split
  · rename_i hs
    exact Belt.wf_runOff_encoder h hs
  · rename_i hs
    simpa using Belt.wf_runOff_timed h hs
  · rename_i hs
    simpa using lost (by simp [hs])
  · rename_i hs
    simpa using lost (by simp [hs])
  · rename_i hs
    exact Belt.wf_runOff h (by rw [hs]; rfl)

/-- Each effect of SET_LINE keeps the belt's invariant (R4). -/
theorem LineEffect.beltWf_fire {s : State} (e : LineEffect) (h : s.belt.wf) : (LineEffect.fire s e).belt.wf := by
  cases e with
  | run => exact State.beltWf_syncRun h
  | stop => exact State.beltWf_stopExpiry h
  | loss => exact State.beltWf_lossExpiry h
  | limit => exact State.beltWf_limitExpiry h
  | gap => exact State.beltWf_gapExpiry h
  | silence => exact State.beltWf_silenceExpiry h

/-- A count as it comes keeps the belt's invariant outside TIMED (R23, R24; log 20). -/
theorem State.beltWf_takeCount {s : State} (d : Dir) (h : s.belt.wf) (ht : s.belt.source ≠ .timed) :
    (s.takeCount d).belt.wf := by
  unfold State.takeCount
  rw [State.belt_countEncoder]
  split
  · rename_i hgap
    refine Belt.wf_encoderCount (State.beltWf_gapExpiry h) ?_ _ _
    cases hs : s.belt.source with
    | confirming c => rcases s.gapExpiry_source hs with e | e <;> simp [e]
    | encoder | timed | estimate | lost => simp [Belt.gapOver, hs] at hgap
  · exact Belt.wf_encoderCount h ht _ _

/-- A sample of the encoder pins keeps the belt's invariant (R7 to R9). -/
theorem State.beltWf_sampleEncoder {s : State} (p : EncPair) (h : s.belt.wf) : (s.sampleEncoder p).belt.wf := by
  have href : (s.putReference p).belt.wf := h
  have counted : ∀ d, s.belt.par.mode ≠ .timed → ((s.putReference p).takeCount d).belt.wf := fun d hm =>
    State.beltWf_takeCount d href fun e => hm ((Belt.timed_iff h).mp e)
  unfold State.sampleEncoder
  split
  · exact h
  · rename_i hm
    split
    · exact href
    split
    · exact href
    split
    · exact counted _ (by simp [hm])
    split
    · exact counted _ (by simp [hm])
    · simpa using href
  · rename_i hm
    split
    · exact href
    split
    · exact counted _ (by simp [hm])
    · exact href

/-- A generated step keeps the belt's invariant (R21, R27). -/
theorem State.beltWf_steps {s : State} (h : s.belt.wf) : s.stepTimed.belt.wf ∧ s.stepEstimated.belt.wf := by
  constructor
  · unfold State.stepTimed
    split
    · rename_i hs _
      simpa using Belt.wf_generatedCount h (.inl hs)
    · exact h
  · unfold State.stepEstimated
    split
    · rename_i hs _
      simpa using Belt.wf_generatedCount h (.inr hs)
    · exact h

/-- An accepted SET_LINE keeps the belt's invariant (R4, R5). -/
theorem State.beltWf_applyLine {s : State} {q : LineParams} (hq : q.wf) (h : s.belt.wf) : (s.applyLine q).belt.wf := by
  unfold State.applyLine
  rw [(State.restartPwm_frame _ _).1]
  split
  · rename_i hm
    unfold State.lineSameMode
    refine foldl_keeps (P := fun t : State => t.belt.wf) (fun t e ht => ?_) _ _ ?_
    · unfold LineEffect.fireIfDue
      split
      · exact LineEffect.beltWf_fire e ht
      · exact ht
    · simpa using Belt.wf_newParams h hq hm
  · simpa using s.belt.wf_changeMode hq

/-- The belt after a reset meets its invariant (Table 1-6). -/
theorem Belt.wf_reset : Belt.reset.wf := by
  refine ⟨by decide, by decide, by decide, by decide, by decide, by decide, by simp [Belt.reset], by decide, ?_, by decide⟩
  exact Belt.speed_le (by decide) (by decide)

/-- Every operation of the part keeps the belt's invariant: only the Belt Position Unit writes the belt. -/
theorem keptByEvents_beltWf : KeptByEvents (fun s => s.belt.wf) where
  ofBlocks s t h hs := by
    change t.belt.wf
    rw [h.belt]
    exact hs
  line s q hq _ h := State.beltWf_applyLine hq h
  position s p _ h := by rw [State.belt_applyPosition]; exact h
  lane s l q h := by simpa using h
  valve s v q _ _ h := by simpa using h
  hold s v d h := h
  test s v d _ _ _ _ _ h := by simpa using h
  enable s v h := by simpa using h
  disable s v h := by simpa using h
  arm s _ h := by simpa using h
  disarm s h := by simpa using h
  verdict s r c ps placed _ _ _ _ _ h := h
  pass s r c _ _ _ h := h
  cancel s tag _ h := by simpa using h
  reset _ _ _ := Belt.wf_reset
  time s h := by
    have kept := foldl_same (f := State.tickValve) (g := State.belt) (fun t v => rfl) allValves
    unfold State.advanceTime
    rw [kept]
    exact Belt.wf_tick h _
  sample s p h := State.beltWf_sampleEncoder p h
  stepTimed s h := (State.beltWf_steps h).1
  stepEstimated s h := (State.beltWf_steps h).2
  runFilter s level h := State.beltWf_syncRun h
  effect s e h := LineEffect.beltWf_fire e h
  eye s l level h := by simpa using h
  debounce s l h := by simpa using h
  pullIn s v h := by simpa using h
  overtime s v h := by simpa using h
  testEnd s v h := by simpa using h
  lastMicro s v h := by
    unfold State.lastMicro
    dsimp only
    repeat' split
    all_goals simpa using h
  period s v h := by simpa using h
  onTime s v h := by simpa using h
  railFalls s h := by simpa using h
  railRises s h := by simpa using h

/-- Settles O58, by the induction over the operations of the part. -/
theorem everyStepKeepsTheBelt : Obligations.EveryStepKeepsTheBelt :=
  fun _ _ h ht => keptByEvents_beltWf.step h ht

end Sys2Proof.Machine
end

section
/-! PROOFS. The induction for invariants that read no more than what the stores hold: lane states, records, queues, valves,
rail and line state. The events of the belt reach them through a handful of operations of the other blocks. -/

namespace Sys2Proof.Machine

/-! ### Properties of the stores -/

/-- Two parts that agree in lanes, records, tag counter, queues, valves, rail and line state; what the blocks were last
handed, the belt, the timers of rail and PWM base may differ. -/
structure SameStores (s t : State) : Prop where
  lanes : t.lanes.lanes = s.lanes.lanes
  records : t.table.records = s.table.records
  nextTag : t.table.nextTag = s.table.nextTag
  queues : t.sched.queues = s.sched.queues
  valves : t.drive.valves = s.drive.valves
  driveRail : t.drive.rail = s.drive.rail
  rail : t.rail.state = s.rail.state
  line : t.ctrl.line = s.ctrl.line
  link : s.linkWf → t.linkWf

/-- A property that reads what the stores hold alone. -/
def OfStores (P : State → Prop) : Prop := ∀ s t, SameStores s t → P s → P t

/-- Parts with the same blocks have the same stores. -/
theorem SameBlocks.stores {s t : State} (h : SameBlocks s t) : SameStores s t := by
  refine ⟨?_, ?_, ?_, ?_, ?_, ?_, ?_, h.line, h.link⟩ <;> simp [h.lanes, h.table, h.sched, h.drive, h.rail]

namespace SameStores

variable {s t : State}

/-- Each lane is the same. -/
theorem lane (h : SameStores s t) (l : Fin 8) : t.lane l = s.lane l := by simp [State.lane, h.lanes]

/-- Each valve is the same. -/
theorem valve (h : SameStores s t) (v : Fin 16) : t.valve v = s.valve v := by simp [State.valve, h.valves]

/-- Each queue is the same. -/
theorem queue (h : SameStores s t) (v : Fin 16) : t.queue v = s.queue v := by simp [State.queue, h.queues]

end SameStores

/-- The operations through which the part's commands reach the stores keep a property. -/
structure KeptByOperations (P : State → Prop) : Prop where
  ofStores : OfStores P
  closeByLength : ∀ u s l, P s → P (State.closeByLength u s l)
  checkRecord : ∀ p s tag, P s → P (State.checkRecord p s tag)
  examineValve : ∀ p s v, P s → P (State.examineValve p s v)
  abandonByReversal : ∀ s l, P s → P (s.abandonByReversal l)
  motionCut : ∀ s v, P s → P (s.motionCut v)
  halt : ∀ s why, P s → P (s.halt why)
  restartValve : ∀ s v, P s → P (s.restartValve v)
  lane : ∀ s l q, P s → P (s.applyLane l q)
  valve : ∀ s v q, 1 ≤ q.maxOpen → s.configurable v = true → P s → P (s.applyValve v q)
  hold : ∀ s v d, P s → P (s.putValve v { s.valve v with pendingDuty := d })
  test : ∀ s v d, 1 ≤ d → d ≤ (s.valve v).cfg.maxOpen → s.drive.rail = .normal → (s.valve v).state = .idle →
    (∀ why, s.ctrl.line ≠ .halted why) → P s → P (s.startTest v d)
  enable : ∀ s v, P s → P (s.enableValve v)
  disable : ∀ s v, P s → P (s.disableValve v)
  arm : ∀ s, s.ctrl.line = .config → P s → P s.armLine
  disarm : ∀ s, P s → P s.disarmLine
  verdict : ∀ s r c ps placed, s.ctrl.line = .armed → s.record? r.tag = some r → r.progress = .awaiting c →
    (∀ p ∈ ps, s.isDisabled p.valve = false) → s.admission r.tag ps = .admitted placed → P s →
    P ({ s with sched := placed }.decide r.tag c .verdict ps)
  pass : ∀ s r c, s.ctrl.line = .armed → s.record? r.tag = some r → r.progress = .awaiting c → P s →
    P (s.decide r.tag c .cancel [])
  cancel : ∀ s tag, s.ctrl.line = .armed → P s → P (s.cancelRemoval tag)
  reset : ∀ s cause settings, P (State.resetPart s cause settings)
  tickValve : ∀ s v, P s → P (s.tickValve v)
  filter : ∀ s l raw candidate, P s → P (s.putLane l { s.lane l with raw := raw, candidate := candidate })
  confirmEdge : ∀ s l c, P s → P (s.confirmEdge l c)
  pullIn : ∀ s v, P s → P (s.pullInExpiry v)
  overtime : ∀ s v, P s → P (s.overtimeOf v)
  testEnd : ∀ s v, P s → P (s.testEndOf v)
  lastMicro : ∀ s v, P s → P (s.lastMicro v)
  period : ∀ s v, P s → P (s.periodStart v)
  onTime : ∀ s v, P s → P (s.onTimeEnd v)
  railFalls : ∀ s, P s → P s.railFalls
  railRises : ∀ s, P s → P s.railRises

namespace KeptByOperations

variable {P : State → Prop}

/-- A property of the stores is one of the blocks. -/
theorem ofBlocks (h : KeptByOperations P) : OfBlocks P := fun s t hb hs => h.ofStores s t hb.stores hs

/-- The belt is no store. -/
theorem putBelt (h : KeptByOperations P) {s : State} (b : Belt) (hs : P s) : P (s.putBelt b) :=
  h.ofStores s _ ⟨rfl, rfl, rfl, rfl, rfl, rfl, rfl, rfl, id⟩ hs

theorem offer (h : KeptByOperations P) {s : State} (n : Notice) (hs : P s) : P (s.offer n) :=
  h.ofBlocks s _ (s.sameBlocks_offer n) hs

theorem occur (h : KeptByOperations P) {s : State} (f : FaultFlag) (hs : P s) : P (s.occur f) :=
  h.ofBlocks s _ (s.sameBlocks_occur f) hs

/-- The order list is no store. -/
theorem choose (h : KeptByOperations P) {s : State} (n : Nat) (hs : P s) : P (s.choose n).2 := by
  obtain ⟨o, e⟩ := s.choose_snd n
  rw [e]
  exact h.ofStores s _ ⟨rfl, rfl, rfl, rfl, rfl, rfl, rfl, rfl, id⟩ hs

/-- The Lane Inputs taking an update keep it (R12, R44). -/
theorem lanesUpdate (h : KeptByOperations P) (u : Update) {s : State} (hs : P s) : P (State.lanesUpdate u s) := by
  unfold State.lanesUpdate
  refine foldl_keeps (fun t l ht => h.closeByLength u t l ht) _ _ (h.ofBlocks _ _ (State.sameBlocks_settle _ _) ?_)
  exact h.ofStores s _ ⟨rfl, rfl, rfl, rfl, rfl, rfl, rfl, rfl, id⟩ hs

/-- The Tracking Table taking an update keeps it (R56). -/
theorem tableUpdate (h : KeptByOperations P) (u : Update) {s : State} (hs : P s) : P (State.tableUpdate u s) := by
  have h1 : P { s with table := { s.table with position := u.position, motion := u.motion } } :=
    h.ofStores s _ ⟨rfl, rfl, rfl, rfl, rfl, rfl, rfl, rfl, id⟩ hs
  unfold State.tableUpdate
  dsimp only
  split
  · exact foldl_keeps (fun t tag ht => h.checkRecord u.position t tag ht) _ _ h1
  · exact h1

/-- The Valve Drive taking an update keeps it (R102, R104). -/
theorem driveUpdate (h : KeptByOperations P) (u : Update) {s : State} (hs : P s) : P (State.driveUpdate u s) := by
  have h1 : P (State.scheduleUpdate u s) := by
    unfold State.scheduleUpdate
    rw [State.workOutAdvances_eq]
    exact h.ofStores s _ ⟨rfl, rfl, rfl, rfl, rfl, rfl, rfl, rfl, id⟩ hs
  unfold State.driveUpdate
  dsimp only
  split
  · exact foldl_keeps (fun t v ht => h.examineValve u.position t v ht) _ _ h1
  · exact h1

/-- An update handed to all keeps it, in every order (R12). -/
theorem handUpdate (h : KeptByOperations P) (k : UpdateKind) {s : State} (hs : P s) : P (s.handUpdate k) := by
  have hc := h.choose 6 hs
  unfold State.handUpdate
  dsimp only
  split
  · exact h.driveUpdate _ (h.tableUpdate _ (h.lanesUpdate _ hc))
  · exact h.tableUpdate _ (h.driveUpdate _ (h.lanesUpdate _ hc))
  · exact h.driveUpdate _ (h.lanesUpdate _ (h.tableUpdate _ hc))
  · exact h.lanesUpdate _ (h.driveUpdate _ (h.tableUpdate _ hc))
  · exact h.tableUpdate _ (h.lanesUpdate _ (h.driveUpdate _ hc))
  · exact h.lanesUpdate _ (h.tableUpdate _ (h.driveUpdate _ hc))

/-- A motion change handed to its receivers keeps it (R17). -/
theorem handMotion (h : KeptByOperations P) (old : Motion) {s : State} (hs : P s) : P (s.handMotion old) := by
  have lanes : ∀ (t : State) new, P t → P (t.lanesMotion new) := fun t new ht => by
    have h1 : P { t with lanes := { t.lanes with motion := new } } :=
      h.ofStores t _ ⟨rfl, rfl, rfl, rfl, rfl, rfl, rfl, rfl, id⟩ ht
    unfold State.lanesMotion
    dsimp only
    split
    · exact foldl_keeps (fun t l ht => h.abandonByReversal t l ht) _ _ (h.ofBlocks _ _ (State.sameBlocks_settle _ _) h1)
    · exact h1
  have drive : ∀ (t : State) new, P t → P (t.driveMotion old new) := fun t new ht => by
    have h1 : P { t with drive := { t.drive with motion := new } } :=
      h.ofStores t _ ⟨rfl, rfl, rfl, rfl, rfl, rfl, rfl, rfl, id⟩ ht
    unfold State.driveMotion
    dsimp only
    split
    · exact foldl_keeps (fun t v ht => h.motionCut t v ht) _ _ h1
    · exact h1
  have ctrl : ∀ (t : State) new, P t → P (t.ctrlMotion new) := fun t new ht =>
    h.ofStores t _ ⟨rfl, rfl, rfl, rfl, rfl, rfl, rfl, rfl, id⟩ ht
  have hc := h.choose 2 hs
  unfold State.handMotion
  split
  · exact hs
  dsimp only
  split
  · exact ctrl _ _ (drive _ _ (lanes _ _ (h.offer _ hc)))
  · exact h.offer _ (ctrl _ _ (drive _ _ (lanes _ _ hc)))

/-- What the Lane Inputs hold of the source is no store. -/
theorem lanesSource (h : KeptByOperations P) (k : SourceKind) {s : State} (hs : P s) : P (s.lanesSource k) :=
  h.ofStores s _ ⟨rfl, rfl, rfl, rfl, rfl, rfl, rfl, rfl, id⟩ hs

/-- A source change handed on keeps it (R26). -/
theorem handSource (h : KeptByOperations P) {s : State} (hs : P s) : P s.handSource :=
  h.lanesSource _ (h.offer _ hs)

/-- What the Line Controller makes of an entry into LOST keeps it (R148). -/
theorem takeLost (h : KeptByOperations P) (cause : LostCause) {s : State} (hs : P s) : P (s.takeLost cause) := by
  unfold State.takeLost
  split
  · exact h.halt s _ hs
  · exact hs

/-- An entry into LOST keeps it (R17, R26, R148). -/
theorem enterLost (h : KeptByOperations P) (cause : LostCause) {s : State} (hs : P s) : P (s.enterLost cause) :=
  h.handMotion _ (h.takeLost _ (h.lanesSource _ (h.offer _ (h.putBelt _ hs))))

/-- The end of a CONFIRMING begun in LOST keeps it (R24, R25). -/
theorem gapFromLost (h : KeptByOperations P) {s : State} (hs : P s) : P s.gapFromLost := by
  unfold State.gapFromLost
  split
  · refine h.handMotion _ ?_
    have told : P ((((s.putBelt { s.belt.lose with restart := false }).offer
        (.source .lost (some .gap))).lanesSource .lost).choose 2).2 :=
      h.choose 2 (h.lanesSource _ (h.offer _ (h.putBelt _ hs)))
    unfold State.handLostAndSilence
    dsimp only
    split
    · exact h.halt _ _ (h.takeLost _ told)
    · exact h.takeLost _ (h.halt _ _ told)
  · exact h.enterLost _ hs

/-- The end of a CONFIRMING keeps it (R24). -/
theorem gapExpiry (h : KeptByOperations P) {s : State} (hs : P s) : P s.gapExpiry := by
  unfold State.gapExpiry
  split
  · split
    · exact h.gapFromLost hs
    split
    · exact h.enterLost _ hs
    split
    · exact h.handSource (h.putBelt _ hs)
    · exact h.enterLost _ hs
  all_goals exact hs

/-- A change of RUN keeps it (R10). -/
theorem syncRun (h : KeptByOperations P) {s : State} (hs : P s) : P s.syncRun := by
  unfold State.syncRun
  split
  · exact hs
  split
  · exact h.putBelt _ hs
  dsimp only
  split
  · exact h.putBelt _ (h.putBelt _ hs)
  · exact h.handMotion _ (h.putBelt _ (h.putBelt _ hs))
  · exact h.enterLost _ (h.putBelt _ hs)
  · exact h.enterLost _ (h.putBelt _ hs)
  · exact h.putBelt _ hs

/-- Each effect of a timer of the belt or of RUN keeps it (R4). -/
theorem effect (h : KeptByOperations P) (e : LineEffect) {s : State} (hs : P s) : P (LineEffect.fire s e) := by
  cases e with
  | run => exact h.syncRun hs
  | stop =>
    change P s.stopExpiry
    unfold State.stopExpiry
    split
    · exact h.handMotion _ (h.putBelt _ hs)
    · exact hs
  | loss =>
    change P s.lossExpiry
    unfold State.lossExpiry
    split
    · split
      · exact h.handSource (h.occur _ (h.putBelt _ hs))
      · exact h.enterLost _ (h.occur _ hs)
    · exact hs
  | limit =>
    change P s.limitExpiry
    unfold State.limitExpiry
    split
    · split
      · exact h.enterLost _ hs
      · exact h.putBelt _ hs
      all_goals exact hs
    · exact hs
  | gap => exact h.gapExpiry hs
  | silence =>
    change P s.silenceExpiry
    unfold State.silenceExpiry
    split
    · exact h.halt _ _ (h.putBelt _ hs)
    · exact hs

/-- A count as it comes keeps it (R12, R17, R23, R26). -/
theorem takeCount (h : KeptByOperations P) (d : Dir) {s : State} (hs : P s) : P (s.takeCount d) := by
  have counted : ∀ t : State, P t → P (t.countEncoder d) := fun t ht => by
    refine h.handUpdate _ (h.handMotion _ ?_)
    unfold State.handSourceFrom
    split
    · exact h.putBelt _ ht
    · exact h.handSource (h.putBelt _ ht)
  unfold State.takeCount
  split
  · exact counted _ (h.gapExpiry hs)
  · exact counted _ hs

/-- A sample of the encoder pins keeps it (R7 to R9). -/
theorem sampleEncoder (h : KeptByOperations P) (p : EncPair) {s : State} (hs : P s) : P (s.sampleEncoder p) := by
  have href : P (s.putReference p) := h.ofStores s _ ⟨rfl, rfl, rfl, rfl, rfl, rfl, rfl, rfl, id⟩ hs
  unfold State.sampleEncoder
  split
  · exact h.ofBlocks s _ (s.sameBlocks_outside _ _) hs
  · split
    · exact href
    split
    · exact href
    split
    · exact h.takeCount _ href
    split
    · exact h.takeCount _ href
    · exact h.occur _ href
  · split
    · exact href
    split
    · exact h.takeCount _ href
    · exact href

/-- A generated count keeps it (R21, R27). -/
theorem countGenerated (h : KeptByOperations P) (k : UpdateKind) {s : State} (hs : P s) : P (s.countGenerated k) :=
  h.handUpdate _ (h.handMotion _ (h.putBelt _ hs))

/-- A restart of the PWM base keeps it (R124). -/
theorem restartPwm (h : KeptByOperations P) (period : Nat) {s : State} (hs : P s) : P (s.restartPwm period) :=
  foldl_keeps (fun t v ht => h.restartValve t v ht) _ _
    (h.ofStores s _ ⟨rfl, rfl, rfl, rfl, rfl, rfl, rfl, rfl, id⟩ hs)

/-- An accepted SET_LINE keeps it (R4, R5, R124). -/
theorem applyLine (h : KeptByOperations P) (q : LineParams) {s : State} (hs : P s) : P (s.applyLine q) := by
  unfold State.applyLine
  refine h.restartPwm _ ?_
  split
  · unfold State.lineSameMode
    refine foldl_keeps (fun t e ht => ?_) _ _ (h.ofBlocks _ _ (State.sameBlocks_settle _ _) (h.putBelt _ hs))
    unfold LineEffect.fireIfDue
    split
    · exact h.effect e ht
    · exact ht
  · refine h.handMotion _ ?_
    unfold State.handSourceFrom
    split
    · exact h.putBelt _ hs
    · exact h.handSource (h.putBelt _ hs)

/-- The end of a debounce time keeps it (R36). -/
theorem debounce (h : KeptByOperations P) (l : Fin 8) {s : State} (hs : P s) : P (s.debounce l) := by
  unfold State.debounce
  split
  · exact h.confirmEdge s l _ hs
  · exact hs

/-- A sample of an eye keeps it (R34 to R36). -/
theorem sampleEye (h : KeptByOperations P) (l : Fin 8) (level : Level) {s : State} (hs : P s) :
    P (s.sampleEye l level) := by
  have raw : P (s.putLane l { s.lane l with raw := level }) := h.filter s l level (s.lane l).candidate hs
  have opened : ∀ c, P ((s.putLane l { s.lane l with raw := level }).putLane l
      { (s.putLane l { s.lane l with raw := level }).lane l with candidate := c }) := fun c =>
    h.filter _ l _ c raw
  unfold State.sampleEye
  dsimp only
  split
  · split
    · exact opened none
    · exact raw
  · split
    · exact raw
    split
    · exact h.debounce l (opened _)
    · exact opened _

/-- Time advancing keeps it. -/
theorem advanceTime (h : KeptByOperations P) {s : State} (hs : P s) : P s.advanceTime := by
  unfold State.advanceTime
  refine foldl_keeps (fun t v ht => h.tickValve t v ht) _ _ ?_
  exact h.ofStores s _ ⟨rfl, rfl, rfl, rfl, rfl, rfl, rfl, rfl, id⟩ hs

/-- What the operations keep is kept by every command and by the time base. -/
theorem events (h : KeptByOperations P) : KeptByEvents P where
  ofBlocks := h.ofBlocks
  line _ q _ _ hs := h.applyLine q hs
  position _ _ _ hs := h.handUpdate _ (h.putBelt _ hs)
  lane := h.lane
  valve := h.valve
  hold := h.hold
  test := h.test
  enable := h.enable
  disable := h.disable
  arm := h.arm
  disarm := h.disarm
  verdict := h.verdict
  pass := h.pass
  cancel := h.cancel
  reset := h.reset
  time _ hs := h.advanceTime hs
  sample _ p hs := h.sampleEncoder p hs
  stepTimed s hs := by
    unfold State.stepTimed
    split
    · exact h.countGenerated _ (h.putBelt _ hs)
    · exact hs
  stepEstimated s hs := by
    unfold State.stepEstimated
    split
    · exact h.countGenerated _ (h.putBelt _ hs)
    · exact hs
  runFilter s level hs := h.syncRun (h.ofStores s _ ⟨rfl, rfl, rfl, rfl, rfl, rfl, rfl, rfl, id⟩ hs)
  effect _ e hs := h.effect e hs
  eye _ l level hs := h.sampleEye l level hs
  debounce _ l hs := h.debounce l hs
  pullIn := h.pullIn
  overtime := h.overtime
  testEnd := h.testEnd
  lastMicro := h.lastMicro
  period := h.period
  onTime := h.onTime
  railFalls := h.railFalls
  railRises := h.railRises

end KeptByOperations

end Sys2Proof.Machine
end

section
/-! PROOFS. What the operations of the Valve Drive do to each valve (chapter 6), and the invariant of the link's queues. -/

namespace Sys2Proof.Machine

/-! ### Each valve after each operation -/

/-- Writing outcomes leaves the valves. -/
@[simp] theorem State.valve_writeOutcomes (s : State) (o : TargetOutcome) (cs : List Contribution) (w : Fin 16) :
    (s.writeOutcomes o cs).valve w = s.valve w := State.valve_of_drive (by simp) w

/-- Writing a queue leaves the valves. -/
@[simp] theorem State.valve_putQueue (s : State) (v w : Fin 16) (q : List Action) :
    (s.putQueue v q).valve w = s.valve w := rfl

/-- Writing a valve leaves the queues. -/
@[simp] theorem State.queue_putValve (s : State) (v w : Fin 16) (x : Valve) :
    (s.putValve v x).queue w = s.queue w := rfl

/-- Writing outcomes leaves the queues. -/
@[simp] theorem State.queue_writeOutcomes (s : State) (o : TargetOutcome) (cs : List Contribution) (w : Fin 16) :
    (s.writeOutcomes o cs).queue w = s.queue w := State.queue_of_sched (by simp) w

/-- A released valve is IDLE with its output off (R120, R129). -/
theorem State.valve_releaseValve (s : State) (v w : Fin 16) :
    (s.releaseValve v).valve w = if v = w then (s.valve v).release else s.valve w := by
  rw [State.releaseValve, State.valve_putValve]

/-- Releasing a valve leaves what the drive holds besides. -/
@[simp] theorem State.drive_releaseValve (s : State) (v : Fin 16) :
    (s.releaseValve v).drive.period = s.drive.period ∧ (s.releaseValve v).drive.base = s.drive.base ∧
    (s.releaseValve v).drive.motion = s.drive.motion ∧ (s.releaseValve v).drive.rail = s.drive.rail :=
  ⟨rfl, rfl, rfl, rfl⟩

/-- An opening leaves what the drive holds besides the valves. -/
@[simp] theorem State.drive_startOpening (s : State) (v : Fin 16) :
    (s.startOpening v).drive.period = s.drive.period ∧ (s.startOpening v).drive.base = s.drive.base ∧
    (s.startOpening v).drive.motion = s.drive.motion ∧ (s.startOpening v).drive.rail = s.drive.rail := by
  unfold State.startOpening
  dsimp only
  (repeat' split) <;> simp

/-- A motion cut leaves what the drive holds besides the valves. -/
@[simp] theorem State.drive_motionCut (s : State) (v : Fin 16) :
    (s.motionCut v).drive.period = s.drive.period ∧ (s.motionCut v).drive.base = s.drive.base ∧
    (s.motionCut v).drive.motion = s.drive.motion ∧ (s.motionCut v).drive.rail = s.drive.rail := by
  unfold State.motionCut
  split <;> simp

/-- A rail cut leaves what the drive holds besides the valves. -/
@[simp] theorem State.drive_railCut (s : State) (v : Fin 16) :
    (s.railCut v).drive.period = s.drive.period ∧ (s.railCut v).drive.base = s.drive.base ∧
    (s.railCut v).drive.motion = s.drive.motion ∧ (s.railCut v).drive.rail = s.drive.rail := by
  unfold State.railCut
  split <;> simp

/-- A line cut leaves what the drive holds besides the valves. -/
@[simp] theorem State.drive_lineCut (s : State) (v : Fin 16) :
    (s.lineCut v).drive.period = s.drive.period ∧ (s.lineCut v).drive.base = s.drive.base ∧
    (s.lineCut v).drive.motion = s.drive.motion ∧ (s.lineCut v).drive.rail = s.drive.rail := by
  unfold State.lineCut
  split <;> simp

/-- The end of the pull-in time leaves what the drive holds besides the valves. -/
@[simp] theorem State.drive_pullInExpiry (s : State) (v : Fin 16) :
    (s.pullInExpiry v).drive.period = s.drive.period ∧ (s.pullInExpiry v).drive.base = s.drive.base ∧
    (s.pullInExpiry v).drive.motion = s.drive.motion ∧ (s.pullInExpiry v).drive.rail = s.drive.rail := by
  unfold State.pullInExpiry
  dsimp only
  (repeat' split) <;> simp

/-- The end of a test leaves what the drive holds besides the valves. -/
@[simp] theorem State.drive_testEndOf (s : State) (v : Fin 16) :
    (s.testEndOf v).drive.period = s.drive.period ∧ (s.testEndOf v).drive.base = s.drive.base ∧
    (s.testEndOf v).drive.motion = s.drive.motion ∧ (s.testEndOf v).drive.rail = s.drive.rail := by
  unfold State.testEndOf
  split <;> simp

/-- An overtime leaves what the drive holds besides the valves. -/
@[simp] theorem State.drive_overtimeOf (s : State) (v : Fin 16) :
    (s.overtimeOf v).drive.period = s.drive.period ∧ (s.overtimeOf v).drive.base = s.drive.base ∧
    (s.overtimeOf v).drive.motion = s.drive.motion ∧ (s.overtimeOf v).drive.rail = s.drive.rail := by
  unfold State.overtimeOf
  split <;> simp

/-- The pending duty becoming current leaves what the drive holds besides the valves. -/
@[simp] theorem State.drive_takePending (s : State) (v : Fin 16) :
    (s.takePending v).drive.period = s.drive.period ∧ (s.takePending v).drive.base = s.drive.base ∧
    (s.takePending v).drive.motion = s.drive.motion ∧ (s.takePending v).drive.rail = s.drive.rail := by
  unfold State.takePending
  simp

/-- The place in the period leaves what the drive holds besides the valves. -/
@[simp] theorem State.drive_refreshHold (s : State) (v : Fin 16) :
    (s.refreshHold v).drive.period = s.drive.period ∧ (s.refreshHold v).drive.base = s.drive.base ∧
    (s.refreshHold v).drive.motion = s.drive.motion ∧ (s.refreshHold v).drive.rail = s.drive.rail := by
  unfold State.refreshHold
  split <;> simp

/-- A valve at a restart of the base leaves what the drive holds besides the valves. -/
@[simp] theorem State.drive_restartValve (s : State) (v : Fin 16) :
    (s.restartValve v).drive.period = s.drive.period ∧ (s.restartValve v).drive.base = s.drive.base ∧
    (s.restartValve v).drive.motion = s.drive.motion ∧ (s.restartValve v).drive.rail = s.drive.rail := by
  unfold State.restartValve
  split <;> simp

/-- ENABLE_VALVE leaves what the drive holds besides the valves. -/
@[simp] theorem State.drive_enableValve (s : State) (v : Fin 16) :
    (s.enableValve v).drive.period = s.drive.period ∧ (s.enableValve v).drive.base = s.drive.base ∧
    (s.enableValve v).drive.motion = s.drive.motion ∧ (s.enableValve v).drive.rail = s.drive.rail := by
  unfold State.enableValve
  split <;> simp

/-- DISABLE_VALVE leaves what the drive holds besides the valves. -/
@[simp] theorem State.drive_disableValve (s : State) (v : Fin 16) :
    (s.disableValve v).drive.period = s.drive.period ∧ (s.disableValve v).drive.base = s.drive.base ∧
    (s.disableValve v).drive.motion = s.drive.motion ∧ (s.disableValve v).drive.rail = s.drive.rail := by
  unfold State.disableValve
  split <;> simp

/-- The last microsecond of an active time leaves what the drive holds besides the valves. -/
@[simp] theorem State.drive_lastMicro (s : State) (v : Fin 16) :
    (s.lastMicro v).drive.period = s.drive.period ∧ (s.lastMicro v).drive.base = s.drive.base ∧
    (s.lastMicro v).drive.motion = s.drive.motion ∧ (s.lastMicro v).drive.rail = s.drive.rail := by
  unfold State.lastMicro
  dsimp only
  (repeat' split) <;> simp

/-- A cut of the OPEN action leaves the valves. -/
@[simp] theorem State.valve_cutOpenAction (s : State) (v w : Fin 16) :
    (s.cutOpenAction v).valve w = s.valve w := State.valve_of_drive (by simp) w

/-- A purge leaves the valves. -/
@[simp] theorem State.valve_purgeQueue (s : State) (v w : Fin 16) :
    (s.purgeQueue v).valve w = s.valve w := State.valve_of_drive (by simp) w

/-- A motion cut releases a carrying valve (R129). -/
theorem State.valve_motionCut (s : State) (v w : Fin 16) : (s.motionCut v).valve w =
    if v = w ∧ (s.valve v).carrying = true then (s.valve v).release else s.valve w := by
  unfold State.motionCut
  by_cases h : v = w
  · subst h; split <;> simp_all [State.valve_releaseValve]
  · split <;> simp [State.valve_releaseValve, h]

/-- A rail cut releases an active valve (R130). -/
theorem State.valve_railCut (s : State) (v w : Fin 16) : (s.railCut v).valve w =
    if v = w ∧ (s.valve v).isActive = true then (s.valve v).release else s.valve w := by
  unfold State.railCut
  by_cases h : v = w
  · subst h; split <;> simp_all [State.valve_releaseValve]
  · split <;> simp [State.valve_releaseValve, h]

/-- A line cut releases an active valve (R131). -/
theorem State.valve_lineCut (s : State) (v w : Fin 16) : (s.lineCut v).valve w =
    if v = w ∧ (s.valve v).isActive = true then (s.valve v).release else s.valve w := by
  unfold State.lineCut
  by_cases h : v = w
  · subst h; split <;> simp_all [State.valve_releaseValve]
  · split <;> simp [State.valve_releaseValve, h]

/-- Leaving ARMED cuts every valve (R131). -/
theorem State.valve_leaveArmed (s : State) (w : Fin 16) :
    s.leaveArmed.valve w = (allValves.foldl State.lineCut s.lanesOff).valve w := by
  unfold State.leaveArmed
  generalize allValves.foldl State.lineCut s.lanesOff = t
  rfl

/-- The end of a test releases the valve at its duration (R137). -/
theorem State.valve_testEndOf (s : State) (v w : Fin 16) : (s.testEndOf v).valve w =
    if v = w ∧ (s.valve v).isActive = true ∧ (s.valve v).carrying = false then
      { (s.valve v).release with active := (s.valve v).activeLimit }
    else s.valve w := by
  unfold State.testEndOf
  by_cases h : v = w
  · subst h
    cases hx : (s.valve v).state <;> simp [Valve.isActive, Valve.carrying, Valve.activeLimit, hx]
  · split <;> simp [h, State.valve_putValve]

/-- An overtime leaves a carrying valve DISABLED at its max open time (R126). -/
theorem State.valve_overtimeOf (s : State) (v w : Fin 16) : (s.overtimeOf v).valve w =
    if v = w ∧ (s.valve v).carrying = true then
      { (s.valve v).disable with active := (s.valve v).cfg.maxOpen * 1000 }
    else s.valve w := by
  unfold State.overtimeOf
  by_cases hc : (s.valve v).carrying = true
  · rw [if_pos hc, State.valve_of_drive (t := ((s.putValve v _).purgeQueue v)) (by simp; rfl),
      State.valve_purgeQueue, State.valve_putValve]
    simp [hc]
  · simp [hc]

/-- The last microsecond of one valve leaves the others. -/
theorem State.valve_lastMicro_ne (s : State) {v w : Fin 16} (h : v ≠ w) : (s.lastMicro v).valve w = s.valve w := by
  unfold State.lastMicro
  dsimp only
  split
  · split <;> simp [State.valve_overtimeOf, State.valve_testEndOf, State.valve_putValve, h]
  · simp [State.valve_putValve, h]

/-! ### What a single operation on a valve keeps -/

/-- A property of one valve that every operation of the Valve Drive on it keeps, and an opening where `opens` says that
it can open. -/
structure KeptByDrive (opens : Prop) (Q : Valve → Prop) : Prop where
  release : ∀ x, Q x → Q x.release
  ended : ∀ x n, x.isActive = true → Q x → Q { x.release with active := n }
  disable : ∀ x n, Q x → Q { x.disable with active := n }
  enable : ∀ x, x.state = .disabled → Q x → Q { x with state := .idle, active := 0 }
  duty : ∀ x d e, Q x → Q { x with duty := d, pendingDuty := e }
  out : ∀ x b, x.holding = true → Q x → Q { x with out := b }
  hold : ∀ x n b, x.state = .pullIn → Q x → Q { x with state := .hold, pull := n, out := b }
  testHold : ∀ x d n b, x.state = .test .pull d → Q x → Q { x with state := .test .hold d, pull := n, out := b }
  openPull : ∀ x, opens → x.state ≠ .disabled → Q x → Q { x with state := .pullIn, active := 0, pull := 0, out := true }
  openHold : ∀ x b, opens → x.state ≠ .disabled → Q x → Q { x with state := .hold, active := 0, pull := 0, out := b }
  takePull : ∀ x d, opens → x.state = .test .pull d → Q x → Q { x with state := .pullIn }
  takeHold : ∀ x d, opens → x.state = .test .hold d → Q x → Q { x with state := .hold }
  tick : ∀ x, Q x → Q x.tick
  micro : ∀ x, (x.isActive = true → x.active + 1 < x.activeLimit) → Q x → Q { x with active := x.active + 1 }

namespace KeptByDrive

variable {opens : Prop} {Q : Valve → Prop} {s : State}

/-- Writing a valve that has it keeps it of all. -/
theorem putValve {s : State} (hs : ∀ w, Q (s.valve w)) (v : Fin 16) {x : Valve} (hx : Q x) (w : Fin 16) :
    Q ((s.putValve v x).valve w) := by
  rw [State.valve_putValve]
  split
  · exact hx
  · exact hs w

/-- A released valve has it. -/
theorem releaseValve (h : KeptByDrive opens Q) (v : Fin 16) (hs : ∀ w, Q (s.valve w)) (w : Fin 16) :
    Q ((s.releaseValve v).valve w) := putValve hs v (h.release _ (hs v)) w

/-- An opening keeps it (R118, R139). -/
theorem startOpening (h : KeptByDrive opens Q) (v : Fin 16) (ho : opens) (hs : ∀ w, Q (s.valve w)) (w : Fin 16) :
    Q ((s.startOpening v).valve w) := by
  unfold State.startOpening
  dsimp only
  split
  · rename_i d hx
    exact putValve hs v (h.takePull _ d ho hx (hs v)) w
  · rename_i d hx
    exact putValve hs v (h.takeHold _ d ho hx (hs v)) w
  · exact hs w
  · rename_i hd
    split
    · exact putValve hs v (h.openPull _ ho hd (hs v)) w
    · exact putValve hs v (h.openHold _ _ ho hd (hs v)) w

/-- The examination of a queue keeps it, if a queued head can open at all (R104 to R106). -/
theorem examineQueue (h : KeptByDrive opens Q) (p : Pos) (v : Fin 16) : ∀ (q : List Action) (s : State),
    (q ≠ [] → s.drive.rail = .normal → opens) → (∀ w, Q (s.valve w)) → ∀ w, Q ((State.examineQueue p v q s).valve w)
  | [], s, _, hs, w => by
    rw [State.examineQueue, State.valve_putQueue]
    exact hs w
  | a :: as, s, ho, hs, w => by
    rw [State.examineQueue]
    split
    · split
      · refine h.examineQueue p v as _ (fun _ hr => ho (by simp) (by simpa using hr)) (h.releaseValve v ?_) w
        simpa using hs
      · simpa using hs w
    · split
      · simpa using hs w
      split
      · exact h.examineQueue p v as _ (fun _ hr => ho (by simp) (by simpa using hr)) (by simpa using hs) w
      · rename_i through
        have normal : s.drive.rail = .normal := by
          cases e : s.drive.rail
          · rfl
          · simp [e] at through
        exact h.startOpening v (ho (by simp) normal) (by simpa using hs) w

/-- The examination of a valve keeps it. -/
theorem examineValve (h : KeptByDrive opens Q) (p : Pos) (v : Fin 16)
    (ho : s.queue v ≠ [] → s.drive.rail = .normal → opens) (hs : ∀ w, Q (s.valve w)) (w : Fin 16) :
    Q ((State.examineValve p s v).valve w) := h.examineQueue p v _ s ho hs w

/-- A motion cut keeps it (R129). -/
theorem motionCut (h : KeptByDrive opens Q) (v : Fin 16) (hs : ∀ w, Q (s.valve w)) (w : Fin 16) :
    Q ((s.motionCut v).valve w) := by
  rw [State.valve_motionCut]
  split
  · exact h.release _ (hs v)
  · exact hs w

/-- A rail cut keeps it (R130). -/
theorem railCut (h : KeptByDrive opens Q) (v : Fin 16) (hs : ∀ w, Q (s.valve w)) (w : Fin 16) :
    Q ((s.railCut v).valve w) := by
  rw [State.valve_railCut]
  split
  · exact h.release _ (hs v)
  · exact hs w

/-- A line cut keeps it (R131). -/
theorem lineCut (h : KeptByDrive opens Q) (v : Fin 16) (hs : ∀ w, Q (s.valve w)) (w : Fin 16) :
    Q ((s.lineCut v).valve w) := by
  rw [State.valve_lineCut]
  split
  · exact h.release _ (hs v)
  · exact hs w

/-- Leaving ARMED keeps it (R131). -/
theorem leaveArmed (h : KeptByDrive opens Q) (hs : ∀ w, Q (s.valve w)) (w : Fin 16) : Q (s.leaveArmed.valve w) := by
  have off : ∀ w, Q (s.lanesOff.valve w) := fun w => by
    rw [State.valve_of_drive (t := s) (by simp)]
    exact hs w
  rw [State.valve_leaveArmed]
  exact foldl_keeps (P := fun t : State => ∀ w, Q (t.valve w)) (fun t v ht => h.lineCut v ht) allValves _ off w

/-- The end of the pull-in time keeps it (R119, R137). -/
theorem pullInExpiry (h : KeptByDrive opens Q) (v : Fin 16) (hs : ∀ w, Q (s.valve w)) (w : Fin 16) :
    Q ((s.pullInExpiry v).valve w) := by
  unfold State.pullInExpiry
  dsimp only
  split
  · rename_i hx
    exact putValve hs v (h.hold _ _ _ hx (hs v)) w
  · rename_i d hx
    exact putValve hs v (h.testHold _ d _ _ hx (hs v)) w
  · exact hs w

/-- The end of a test keeps it (R137). -/
theorem testEndOf (h : KeptByDrive opens Q) (v : Fin 16) (hs : ∀ w, Q (s.valve w)) (w : Fin 16) :
    Q ((s.testEndOf v).valve w) := by
  rw [State.valve_testEndOf]
  split
  · rename_i hx
    exact h.ended _ _ hx.2.1 (hs v)
  · exact hs w

/-- An overtime keeps it (R126). -/
theorem overtimeOf (h : KeptByDrive opens Q) (v : Fin 16) (hs : ∀ w, Q (s.valve w)) (w : Fin 16) :
    Q ((s.overtimeOf v).valve w) := by
  rw [State.valve_overtimeOf]
  split
  · exact h.disable _ _ (hs v)
  · exact hs w

/-- The last microsecond of an active time keeps it (R126, R137, R139). -/
theorem lastMicro (h : KeptByDrive opens Q) (v : Fin 16) (hs : ∀ w, Q (s.valve w)) (w : Fin 16) :
    Q ((s.lastMicro v).valve w) := by
  by_cases hv : v = w
  · subst hv
    unfold State.lastMicro
    dsimp only
    rw [State.valve_putValve_self]
    split
    · split
      · rw [State.valve_overtimeOf, State.valve_putValve_self, if_pos ⟨rfl, ‹_›⟩]
        exact h.disable (s.valve v) _ (hs v)
      · rw [State.valve_testEndOf, State.valve_putValve_self]
        split
        · rename_i active
          exact h.ended (s.valve v) _ active.2.1 (hs v)
        · rename_i reached carrying idle
          refine h.micro _ (fun active => ?_) (hs v)
          exact absurd ⟨rfl, active, by simpa using carrying⟩ idle
    · rename_i below
      rw [State.valve_putValve_self]
      exact h.micro _ (fun _ => Nat.not_le.mp below) (hs v)
  · rw [State.valve_lastMicro_ne s hv]
    exact hs w

/-- A period start keeps it (R121 to R123). -/
theorem refreshHold (h : KeptByDrive opens Q) (v : Fin 16) (hs : ∀ w, Q (s.valve w)) (w : Fin 16) :
    Q ((s.refreshHold v).valve w) := by
  unfold State.refreshHold
  split
  · rename_i holding
    exact putValve hs v (h.out _ _ holding (hs v)) w
  · exact hs w

/-- The pending duty becoming current keeps it (R123). -/
theorem takePending (h : KeptByDrive opens Q) (v : Fin 16) (hs : ∀ w, Q (s.valve w)) (w : Fin 16) :
    Q ((s.takePending v).valve w) := putValve hs v (h.duty _ _ _ (hs v)) w

/-- A period start keeps it (R121 to R123). -/
theorem periodStart (h : KeptByDrive opens Q) (v : Fin 16) (hs : ∀ w, Q (s.valve w)) (w : Fin 16) :
    Q ((s.periodStart v).valve w) := by
  have based : ∀ w, Q (State.valve { s with drive := { s.drive with base := periodOffset s.drive.period v } } w) := hs
  exact h.refreshHold v (h.takePending v based) w

/-- The end of the on time keeps it (R122). -/
theorem onTimeEnd (h : KeptByDrive opens Q) (v : Fin 16) (hs : ∀ w, Q (s.valve w)) (w : Fin 16) :
    Q ((s.onTimeEnd v).valve w) := by
  unfold State.onTimeEnd
  dsimp only
  split
  · rename_i on
    simp only [Bool.and_eq_true] at on
    exact putValve (fun w => hs w) v (h.out _ _ on.1.1 (hs v)) w
  · exact hs w

/-- A restart of the base keeps it (R124). -/
theorem restartValve (h : KeptByDrive opens Q) (v : Fin 16) (hs : ∀ w, Q (s.valve w)) (w : Fin 16) :
    Q ((s.restartValve v).valve w) := by
  unfold State.restartValve
  split
  · exact h.refreshHold v (h.takePending v hs) w
  · exact h.refreshHold v hs w

/-- ENABLE_VALVE keeps it (R134). -/
theorem enableValve (h : KeptByDrive opens Q) (v : Fin 16) (hs : ∀ w, Q (s.valve w)) (w : Fin 16) :
    Q ((s.enableValve v).valve w) := by
  unfold State.enableValve
  split
  · rename_i hx
    exact putValve hs v (h.enable _ hx (hs v)) w
  · exact hs w

/-- DISABLE_VALVE keeps it (R133). -/
theorem disableValve (h : KeptByDrive opens Q) (v : Fin 16) (hs : ∀ w, Q (s.valve w)) (w : Fin 16) :
    Q ((s.disableValve v).valve w) := by
  unfold State.disableValve
  split
  · exact hs w
  · rw [State.valve_purgeQueue]
    exact putValve hs v (h.disable (s.valve v) (s.valve v).active (hs v)) w

/-- A microsecond keeps it (R119, R125). -/
theorem tickValve (h : KeptByDrive opens Q) (v : Fin 16) (hs : ∀ w, Q (s.valve w)) (w : Fin 16) :
    Q ((s.tickValve v).valve w) := putValve hs v (h.tick _ (hs v)) w

/-- A halt keeps it (R149). -/
theorem halt (h : KeptByDrive opens Q) (why : HaltCause) (hs : ∀ w, Q (s.valve w)) (w : Fin 16) :
    Q ((s.halt why).valve w) := by
  unfold State.halt
  split
  · rw [State.valve_of_drive (t := (s.putLine (.halted why)).leaveArmed) (by simp)]
    exact h.leaveArmed (s := s.putLine (.halted why)) hs w
  · exact hs w

/-- A disarmed line keeps it (R146). -/
theorem disarmLine (h : KeptByDrive opens Q) (hs : ∀ w, Q (s.valve w)) (w : Fin 16) :
    Q (s.disarmLine.valve w) := by
  unfold State.disarmLine
  rw [State.valve_of_drive (t := (s.putLine .config).leaveArmed) (by simp)]
  exact h.leaveArmed (s := s.putLine .config) hs w

end KeptByDrive

end Sys2Proof.Machine
end

section
/-! PROOFS. What the operations on many valves or lanes at once leave, valve by valve and lane by lane. -/

namespace Sys2Proof.Machine

/-! ### Leaving ARMED (R39, R64, R112, R131) -/

/-- Switching all lanes off leaves each lane OFF and otherwise as it was (R39). -/
theorem State.lane_lanesOff (s : State) (l : Fin 8) : s.lanesOff.lane l = { s.lane l with state := .off } :=
  foldl_allLanes (get := State.lane) (g := fun _ x => { x with state := .off })
    (fun t k => by rw [State.lane_putLaneState, if_pos rfl])
    (fun t k m h => by rw [State.lane_putLaneState, if_neg h]) s l

/-- A lane written leaves what the Lane Inputs were last handed. -/
theorem State.handed_lanesOff (s : State) : s.lanesOff.lanes.position = s.lanes.position ∧
    s.lanesOff.lanes.motion = s.lanes.motion ∧ s.lanesOff.lanes.source = s.lanes.source := by
  have h := foldl_same (f := fun (s : State) (l : Fin 8) => s.putLaneState l .off)
    (g := fun t : State => (t.lanes.position, t.lanes.motion, t.lanes.source))
    (fun t l => by simp [State.putLaneState, State.putLane]) allLanes s
  simpa [State.lanesOff] using h

/-- What the line cuts leave of the part: the drive but for its valves, and every other block. -/
theorem State.foldl_lineCut_rest (s : State) : ∃ vs,
    allValves.foldl State.lineCut s = { s with drive := { s.drive with valves := vs } } :=
  foldl_keeps (P := fun t : State => ∃ vs, t = { s with drive := { s.drive with valves := vs } })
    (fun t v ⟨vs, h⟩ => by
      unfold State.lineCut
      split
      · exact ⟨vs.set v (t.valve v).release, by rw [State.releaseValve, State.putValve, h]⟩
      · exact ⟨vs, h⟩)
    allValves s ⟨s.drive.valves, rfl⟩

/-- The line cuts release every active valve (R131). -/
theorem State.valve_foldl_lineCut (s : State) (v : Fin 16) : (allValves.foldl State.lineCut s).valve v =
    if (s.valve v).isActive = true then (s.valve v).release else s.valve v :=
  foldl_allValves (get := State.valve) (g := fun _ x => if x.isActive = true then x.release else x)
    (fun t v => by rw [State.valve_lineCut]; simp) (fun t v w h => by rw [State.valve_lineCut]; simp [h]) s v

/-- Leaving ARMED, in the words of the statements. -/
theorem State.leftArmed (s : State) : LeftArmed s s.leaveArmed := by
  obtain ⟨vs, cut⟩ := s.lanesOff.foldl_lineCut_rest
  have left : s.leaveArmed = ({ s.lanesOff with drive := { s.lanesOff.drive with valves := vs } } : State).emptyQueues.emptyTable := by
    rw [State.leaveArmed, cut]
  have valve : ∀ v, s.leaveArmed.valve v =
      if (s.valve v).isActive then { s.valve v with state := .idle, out := false, pull := 0 } else s.valve v := fun v => by
    rw [State.valve_leaveArmed, State.valve_foldl_lineCut, State.valve_of_drive (s := s.lanesOff) (t := s) (by simp)]
    rfl
  have handed := s.handed_lanesOff
  exact {
    lanes := fun l => by
      rw [left, ← s.lane_lanesOff l]
      rfl
    lanesHanded := by
      rw [left]
      exact handed
    valves := valve
    drive := by
      rw [left]
      simp [State.emptyQueues, State.emptyTable]
    queues := fun v => by
      rw [left]
      simp [State.emptyTable, State.advance, State.emptyQueues, State.queue]
    schedule := by
      rw [left]
      simp [State.emptyQueues, State.emptyTable]
    table := by
      rw [left]
      simp [State.emptyQueues, State.emptyTable, State.putRecords]
    rest := by simp }

/-! ### The rail (R130) -/

/-- A rail cut of one valve leaves every other valve with its queue. -/
theorem State.railCut_other (s : State) {v w : Fin 16} (h : v ≠ w) :
    ((s.railCut v).valve w, (s.railCut v).queue w) = (s.valve w, s.queue w) := by
  rw [State.valve_railCut, if_neg (fun e => h e.1)]
  unfold State.railCut
  split
  · rw [State.queue_cutOpenAction, if_neg h, State.queue_of_sched (t := s) (by simp)]
  · rfl

/-- A rail cut of an active valve releases it and removes its OPEN action (R107, R130). -/
theorem State.railCut_own (s : State) (v : Fin 16) :
    ((s.railCut v).valve v, (s.railCut v).queue v) = if (s.valve v).isActive = true then
      ((s.valve v).release, (s.queue v).filter (fun a => a.state == .queued)) else (s.valve v, s.queue v) := by
  rw [State.valve_railCut]
  unfold State.railCut
  by_cases active : (s.valve v).isActive = true
  · have queue : (s.releaseValve v).queue v = s.queue v := State.queue_of_sched (by simp) v
    rw [if_pos active, if_pos ⟨rfl, active⟩, if_pos active, State.queue_cutOpenAction, if_pos rfl, queue]
  · rw [if_neg (fun e => active e.2), if_neg active, if_neg active]

/-- A fall of the rail releases every active valve and removes its OPEN action (R107, R130). -/
theorem State.valve_queue_railFalls (s : State) (v : Fin 16) :
    (s.railFalls.valve v, s.railFalls.queue v) = if (s.valve v).isActive = true then
      ((s.valve v).release, (s.queue v).filter (fun a => a.state == .queued)) else (s.valve v, s.queue v) := by
  have cut := foldl_allValves (get := fun t w => (State.valve t w, State.queue t w)) (f := State.railCut)
    (g := fun _ x => if x.1.isActive = true then (x.1.release, x.2.filter (fun a => a.state == .queued)) else x)
    State.railCut_own (fun t v w h => t.railCut_other h)
    ({ s with rail := ⟨.low, 0⟩, drive := { s.drive with rail := .low } } : State) v
  unfold State.railFalls
  dsimp only
  rw [State.valve_of_drive (t := allValves.foldl State.railCut _) (by simp; rfl),
    State.queue_of_sched (t := allValves.foldl State.railCut _) (by simp; rfl), cut]
  rfl

/-- A fall of the rail releases every active valve (R130). -/
theorem State.valve_railFalls (s : State) (v : Fin 16) : s.railFalls.valve v =
    if (s.valve v).isActive = true then (s.valve v).release else s.valve v := by
  have h := congrArg Prod.fst (s.valve_queue_railFalls v)
  rwa [apply_ite Prod.fst] at h

/-- A fall of the rail removes the OPEN action of every active valve (R107, R130). -/
theorem State.queue_railFalls (s : State) (v : Fin 16) : s.railFalls.queue v =
    if (s.valve v).isActive = true then (s.queue v).filter (fun a => a.state == .queued) else s.queue v := by
  have h := congrArg Prod.snd (s.valve_queue_railFalls v)
  rwa [apply_ite Prod.snd] at h

/-- The fall of the rail hands it to the Valve Drive (R152). -/
@[simp] theorem State.drive_railFalls (s : State) :
    s.railFalls.drive.period = s.drive.period ∧ s.railFalls.drive.base = s.drive.base ∧
    s.railFalls.drive.motion = s.drive.motion ∧ s.railFalls.drive.rail = .low ∧ s.railFalls.rail = ⟨.low, 0⟩ := by
  have h := foldl_same (f := State.railCut)
    (g := fun t : State => (t.drive.period, t.drive.base, t.drive.motion, t.drive.rail, t.rail)) (fun t v => by simp)
    allValves ({ s with rail := ⟨.low, 0⟩, drive := { s.drive with rail := .low } } : State)
  simp only [Prod.mk.injEq] at h
  unfold State.railFalls
  simp [h]

/-- The rise of the rail hands it to the Valve Drive and moves no valve (R153). -/
@[simp] theorem State.drive_railRises (s : State) :
    s.railRises.drive = { s.drive with rail := .normal } ∧ s.railRises.rail = ⟨.normal, 0⟩ := by
  unfold State.railRises
  simp

/-! ### What the drive holds besides its valves -/

/-- The examination of a queue leaves what the drive holds besides the valves. -/
@[simp] theorem State.drive_examineQueue (p : Pos) (v : Fin 16) : ∀ (q : List Action) (s : State),
    (State.examineQueue p v q s).drive.period = s.drive.period ∧
    (State.examineQueue p v q s).drive.base = s.drive.base ∧
    (State.examineQueue p v q s).drive.motion = s.drive.motion ∧
    (State.examineQueue p v q s).drive.rail = s.drive.rail
  | [], s => by
    rw [State.examineQueue]
    simp
  | a :: as, s => by
    rw [State.examineQueue]
    (repeat' split) <;> simp [State.drive_examineQueue p v as]

/-- The examination of a valve leaves what the drive holds besides the valves. -/
@[simp] theorem State.drive_examineValve (p : Pos) (s : State) (v : Fin 16) :
    (State.examineValve p s v).drive.period = s.drive.period ∧
    (State.examineValve p s v).drive.base = s.drive.base ∧
    (State.examineValve p s v).drive.motion = s.drive.motion ∧
    (State.examineValve p s v).drive.rail = s.drive.rail := State.drive_examineQueue p v _ s

/-- Leaving ARMED leaves what the drive holds besides the valves. -/
@[simp] theorem State.drive_leaveArmed (s : State) :
    s.leaveArmed.drive.period = s.drive.period ∧ s.leaveArmed.drive.base = s.drive.base ∧
    s.leaveArmed.drive.motion = s.drive.motion ∧ s.leaveArmed.drive.rail = s.drive.rail := s.leftArmed.drive

/-- A halt leaves what the drive holds besides the valves. -/
@[simp] theorem State.drive_halt (s : State) (why : HaltCause) :
    (s.halt why).drive.period = s.drive.period ∧ (s.halt why).drive.base = s.drive.base ∧
    (s.halt why).drive.motion = s.drive.motion ∧ (s.halt why).drive.rail = s.drive.rail := by
  unfold State.halt
  split <;> simp

/-- A DISARM leaves what the drive holds besides the valves. -/
@[simp] theorem State.drive_disarmLine (s : State) :
    s.disarmLine.drive.period = s.drive.period ∧ s.disarmLine.drive.base = s.drive.base ∧
    s.disarmLine.drive.motion = s.drive.motion ∧ s.disarmLine.drive.rail = s.drive.rail := by
  unfold State.disarmLine
  simp

end Sys2Proof.Machine
end

section
/-! PROOFS. Invariants of the outputs (chapter 6): a property of each valve that the operations on one valve keep is kept by
every command. -/

namespace Sys2Proof.Machine

/-- A property of each valve, which may depend on the rail, that the operations of the Valve Drive keep while `I` holds of
the part. -/
structure KeptByValves (I : State → Prop) (Q : RailState → Valve → Prop) : Prop where
  drive : ∀ r, KeptByDrive (r = .normal) (Q r)
  valve : ∀ (s : State) v q, 1 ≤ q.maxOpen → s.configurable v = true → I s → Q s.drive.rail (s.valve v) →
    Q s.drive.rail ((s.applyValve v q).valve v)
  test : ∀ (s : State) v d, 1 ≤ d → d ≤ (s.valve v).cfg.maxOpen → s.drive.rail = .normal → (s.valve v).state = .idle →
    Q s.drive.rail (s.valve v) → Q s.drive.rail ((s.startTest v d).valve v)
  falls : ∀ r x, Q r x → Q .low (if x.isActive = true then x.release else x)
  rises : ∀ r x, Q r x → Q .normal x
  reset : Q .low .reset

/-- Every valve has a property, by the rail the Valve Drive holds. -/
def State.valvesHave (Q : RailState → Valve → Prop) (s : State) : Prop := ∀ w, Q s.drive.rail (s.valve w)

namespace State.valvesHave

variable {Q : RailState → Valve → Prop} {s t : State}

/-- It is read from the drive alone. -/
theorem of_drive (h : t.drive = s.drive) (hs : s.valvesHave Q) : t.valvesHave Q := fun w => by
  rw [State.valve_of_drive h, h]
  exact hs w

/-- With the same rail it is read from the valves. -/
theorem of_valves (h : t.drive.rail = s.drive.rail) (hs : ∀ w, Q s.drive.rail (t.valve w)) : t.valvesHave Q := fun w => by
  rw [h]
  exact hs w

end State.valvesHave

/-- SET_VALVE writes one valve (R115). -/
theorem State.valve_applyValve_ne (s : State) {v w : Fin 16} (q : ValveParams) (h : v ≠ w) :
    (s.applyValve v q).valve w = s.valve w := by
  simp [State.applyValve, State.valve_putValve, h]

/-- A test starts on one valve (R137). -/
theorem State.valve_startTest_ne (s : State) {v w : Fin 16} (d : Nat) (h : v ≠ w) :
    (s.startTest v d).valve w = s.valve w := by
  unfold State.startTest
  dsimp only
  split <;> simp [State.valve_putValve, h]

/-- SET_VALVE and a test leave what the Valve Drive holds of the rail. -/
@[simp] theorem State.rail_applyValve (s : State) (v : Fin 16) (q : ValveParams) :
    (s.applyValve v q).drive.rail = s.drive.rail := rfl

/-- A test leaves what the Valve Drive holds of the rail. -/
@[simp] theorem State.rail_startTest (s : State) (v : Fin 16) (d : Nat) :
    (s.startTest v d).drive.rail = s.drive.rail := by
  unfold State.startTest
  dsimp only
  split <;> rfl

namespace KeptByValves

variable {I : State → Prop} {Q : RailState → Valve → Prop}

/-- A property of each valve that the Valve Drive keeps is kept by every operation. -/
theorem operations (hI : KeptByOperations I) (h : KeptByValves I Q) :
    KeptByOperations (fun s => I s ∧ s.valvesHave Q) where
  ofStores s t st hs := ⟨hI.ofStores s t st hs.1, .of_valves st.driveRail fun w => by
    rw [st.valve]
    exact hs.2 w⟩
  closeByLength u s l hs := ⟨hI.closeByLength u s l hs.1, hs.2.of_drive (by simp)⟩
  checkRecord p s tag hs := ⟨hI.checkRecord p s tag hs.1, hs.2.of_drive (by simp)⟩
  examineValve p s v hs := ⟨hI.examineValve p s v hs.1,
    .of_valves (by simp) ((h.drive _).examineValve p v (fun _ hr => hr) hs.2)⟩
  abandonByReversal s l hs := ⟨hI.abandonByReversal s l hs.1, hs.2.of_drive (by simp)⟩
  motionCut s v hs := ⟨hI.motionCut s v hs.1, .of_valves (by simp) ((h.drive _).motionCut v hs.2)⟩
  halt s why hs := ⟨hI.halt s why hs.1, .of_valves (by simp) ((h.drive _).halt why hs.2)⟩
  restartValve s v hs := ⟨hI.restartValve s v hs.1, .of_valves (by simp) ((h.drive _).restartValve v hs.2)⟩
  lane s l q hs := ⟨hI.lane s l q hs.1, hs.2.of_drive (by simp)⟩
  valve s v q hq hc hs := ⟨hI.valve s v q hq hc hs.1, .of_valves (s := s) (by simp) fun w => by
    by_cases hv : v = w
    · subst hv
      exact h.valve s v q hq hc hs.1 (hs.2 v)
    · rw [State.valve_applyValve_ne s q hv]
      exact hs.2 w⟩
  hold s v d hs := ⟨hI.hold s v d hs.1, KeptByDrive.putValve hs.2 v ((h.drive _).duty _ _ d (hs.2 v))⟩
  test s v d h1 hd hr hx hl hs := ⟨hI.test s v d h1 hd hr hx hl hs.1, .of_valves (s := s) (by simp) fun w => by
    by_cases hv : v = w
    · subst hv
      exact h.test s v d h1 hd hr hx (hs.2 v)
    · rw [State.valve_startTest_ne s d hv]
      exact hs.2 w⟩
  enable s v hs := ⟨hI.enable s v hs.1, .of_valves (by simp) ((h.drive _).enableValve v hs.2)⟩
  disable s v hs := ⟨hI.disable s v hs.1, .of_valves (by simp) ((h.drive _).disableValve v hs.2)⟩
  arm s hl hs := ⟨hI.arm s hl hs.1, hs.2.of_drive (by simp)⟩
  disarm s hs := ⟨hI.disarm s hs.1, .of_valves (by simp) ((h.drive _).disarmLine hs.2)⟩
  verdict s r c ps placed hl hr hc he ha hs :=
    ⟨hI.verdict s r c ps placed hl hr hc he ha hs.1, hs.2.of_drive rfl⟩
  pass s r c hl hr hc hs := ⟨hI.pass s r c hl hr hc hs.1, hs.2.of_drive rfl⟩
  cancel s tag hl hs := ⟨hI.cancel s tag hl hs.1, hs.2.of_drive (by simp)⟩
  reset s cause settings := ⟨hI.reset s cause settings, fun w => by
    have : (State.resetPart s cause settings).valve w = .reset := by simp [State.valve, State.resetPart, Drive.reset]
    rw [this]
    exact h.reset⟩
  tickValve s v hs := ⟨hI.tickValve s v hs.1, (h.drive _).tickValve v hs.2⟩
  filter s l raw candidate hs := ⟨hI.filter s l raw candidate hs.1, hs.2⟩
  confirmEdge s l c hs := ⟨hI.confirmEdge s l c hs.1, hs.2.of_drive (by simp)⟩
  pullIn s v hs := ⟨hI.pullIn s v hs.1, .of_valves (by simp) ((h.drive _).pullInExpiry v hs.2)⟩
  overtime s v hs := ⟨hI.overtime s v hs.1, .of_valves (by simp) ((h.drive _).overtimeOf v hs.2)⟩
  testEnd s v hs := ⟨hI.testEnd s v hs.1, .of_valves (by simp) ((h.drive _).testEndOf v hs.2)⟩
  lastMicro s v hs := ⟨hI.lastMicro s v hs.1, .of_valves (by simp) ((h.drive _).lastMicro v hs.2)⟩
  period s v hs := ⟨hI.period s v hs.1, .of_valves (by simp [State.periodStart]) ((h.drive _).periodStart v hs.2)⟩
  onTime s v hs := ⟨hI.onTime s v hs.1, .of_valves (by
    unfold State.onTimeEnd
    dsimp only
    split <;> rfl) ((h.drive _).onTimeEnd v hs.2)⟩
  railFalls s hs := ⟨hI.railFalls s hs.1, fun w => by
    have low : s.railFalls.drive.rail = .low := by simp
    rw [low, State.valve_railFalls]
    exact h.falls _ _ (hs.2 w)⟩
  railRises s hs := ⟨hI.railRises s hs.1, fun w => by
    have normal : s.railRises.drive.rail = .normal := by simp
    rw [normal, show s.railRises.valve w = s.valve w by simp [State.valve]]
    exact h.rises _ _ (hs.2 w)⟩

end KeptByValves

/-! ### The outputs and the rail (R117, R130) -/

/-- The Valve Drive holds the Rail Monitor's rail (R152, R153). -/
def State.railInStep (s : State) : Prop := s.drive.rail = s.rail.state

/-- The rail stays in step. -/
theorem State.railInStep.of_same {s t : State} (hd : t.drive.rail = s.drive.rail) (hr : t.rail.state = s.rail.state)
    (hs : s.railInStep) : t.railInStep := by
  unfold State.railInStep
  rw [hd, hr, hs]

/-- Every operation keeps the rail in step. -/
theorem keptByOperations_railInStep : KeptByOperations State.railInStep where
  ofStores s t st hs := hs.of_same st.driveRail st.rail
  closeByLength u s l hs := hs.of_same (by simp) (by simp)
  checkRecord p s tag hs := hs.of_same (by simp) (by simp)
  examineValve p s v hs := hs.of_same (by simp) (by simp)
  abandonByReversal s l hs := hs.of_same (by simp) (by simp)
  motionCut s v hs := hs.of_same (by simp) (by simp)
  halt s why hs := hs.of_same (by simp) (by simp)
  restartValve s v hs := hs.of_same (by simp) (by simp)
  lane s l q hs := hs.of_same (by simp) (by simp)
  valve s v q _ _ hs := hs
  hold s v d hs := hs
  test s v d _ _ _ _ _ hs := hs.of_same (by simp) (by simp)
  enable s v hs := hs.of_same (by simp) (by simp)
  disable s v hs := hs.of_same (by simp) (by simp)
  arm s _ hs := hs.of_same (by simp) (by simp)
  disarm s hs := hs.of_same (by simp) (by simp)
  verdict s r c ps placed _ _ _ _ _ hs := hs
  pass s r c _ _ _ hs := hs
  cancel s tag _ hs := hs.of_same (by simp) (by simp)
  reset s cause settings := rfl
  tickValve s v hs := hs
  filter s l raw candidate hs := hs
  confirmEdge s l c hs := hs.of_same (by simp) (by simp)
  pullIn s v hs := hs.of_same (by simp) (by simp)
  overtime s v hs := hs.of_same (by simp) (by simp)
  testEnd s v hs := hs.of_same (by simp) (by simp)
  lastMicro s v hs := hs.of_same (by simp) (by simp [State.lastMicro, apply_ite State.rail])
  period s v hs := hs.of_same (by simp [State.periodStart]) (by simp)
  onTime s v hs := hs.of_same (by
    unfold State.onTimeEnd
    dsimp only
    split <;> rfl) (by simp)
  railFalls s _ := by
    unfold State.railInStep
    simp
  railRises s _ := by
    unfold State.railInStep
    simp

/-- The output of one valve is on only in PULL_IN, HOLD or TEST, and with the rail NORMAL (R117, R130). -/
def Valve.outputWf (r : RailState) (x : Valve) : Prop :=
  (x.out = true → x.isActive = true) ∧ (r = .low → x.isActive = false)

/-- A valve that is not active, with its output off. -/
theorem Valve.outputWf_off (r : RailState) {x : Valve} (ho : x.out = false) (ha : x.isActive = false) : x.outputWf r :=
  ⟨fun h => absurd h (by simp [ho]), fun _ => ha⟩

/-- A valve that is as active as another, with the same output. -/
theorem Valve.outputWf_of_same {r : RailState} {x y : Valve} (ho : y.out = x.out) (ha : y.isActive = x.isActive)
    (h : x.outputWf r) : y.outputWf r := by
  obtain ⟨out, low⟩ := h
  exact ⟨fun o => ha.trans (out (ho ▸ o)), fun l => ha.trans (low l)⟩

/-- An active valve, with whatever output, under a NORMAL rail. -/
theorem Valve.outputWf_active {r : RailState} {x : Valve} (ha : x.isActive = true) (hr : r = .normal) : x.outputWf r :=
  ⟨fun _ => ha, fun l => absurd (l.symm.trans hr) (by decide)⟩

/-- An active valve under a rail that lets it be one. -/
theorem Valve.outputWf_stays {r : RailState} {x y : Valve} (hx : x.isActive = true) (hy : y.isActive = true)
    (h : x.outputWf r) : y.outputWf r :=
  ⟨fun _ => hy, fun l => absurd (h.2 l) (by simp [hx])⟩

/-- Every operation on one valve keeps its output right. -/
theorem keptByDrive_outputWf (r : RailState) : KeptByDrive (r = .normal) (Valve.outputWf r) where
  release x _ := Valve.outputWf_off r rfl rfl
  ended x n _ _ := Valve.outputWf_off r rfl rfl
  disable x n _ := Valve.outputWf_off r rfl rfl
  enable x hx h := by
    refine Valve.outputWf_off r ?_ rfl
    cases ho : x.out
    · rfl
    · exact absurd (h.1 ho) (by simp [Valve.isActive, hx])
  duty x d e h := Valve.outputWf_of_same rfl rfl h
  out x b hx h := by
    have active : x.isActive = true := by
      unfold Valve.holding at hx
      unfold Valve.isActive
      split at hx <;> simp_all
    exact Valve.outputWf_stays active active h
  hold x n b hx h := Valve.outputWf_stays (by simp [Valve.isActive, hx]) rfl h
  testHold x d n b hx h := Valve.outputWf_stays (by simp [Valve.isActive, hx]) rfl h
  openPull x hr _ _ := Valve.outputWf_active rfl hr
  openHold x b hr _ _ := Valve.outputWf_active rfl hr
  takePull x d hr _ _ := Valve.outputWf_active rfl hr
  takeHold x d hr _ _ := Valve.outputWf_active rfl hr
  tick x h := Valve.outputWf_of_same rfl rfl h
  micro x _ h := Valve.outputWf_of_same rfl rfl h

/-- The operations on all valves keep the outputs right. -/
theorem keptByValves_outputWf : KeptByValves State.railInStep Valve.outputWf where
  drive := keptByDrive_outputWf
  valve s v q _ _ _ h := by
    rw [State.applyValve, State.valve_putValve_self]
    split
    · exact Valve.outputWf_off _ rfl rfl
    · exact Valve.outputWf_of_same rfl rfl h
  test s v d _ _ hr _ _ := by
    unfold State.startTest
    dsimp only
    split <;> rw [State.valve_putValve_self] <;> exact Valve.outputWf_active rfl hr
  falls r x h := by
    split
    · exact Valve.outputWf_off _ rfl rfl
    · rename_i idle
      exact ⟨h.1, fun _ => by simpa using idle⟩
  rises r x h := ⟨h.1, fun l => by cases l⟩
  reset := Valve.outputWf_off _ rfl rfl

/-- The invariant of the outputs, valve by valve. -/
theorem State.outputsWf_iff (s : State) : s.outputsWf ↔ s.railInStep ∧ s.valvesHave Valve.outputWf := by
  constructor
  · rintro ⟨rail, out, low⟩
    exact ⟨rail, fun w => ⟨out w, fun l => low l w⟩⟩
  · rintro ⟨rail, each⟩
    exact ⟨rail, fun w => (each w).1, fun l w => (each w).2 l⟩

/-- Every step keeps the outputs right (R117, R130). -/
theorem step_keeps_outputsWf {s t : State} (hs : s.outputsWf) (ht : step s = .next t) : t.outputsWf :=
  (State.outputsWf_iff t).mpr ((keptByValves_outputWf.operations keptByOperations_railInStep).events.step
    ((State.outputsWf_iff s).mp hs) ht)

end Sys2Proof.Machine
end

section
/-! PROOFS. What the operations tell the host: the link and the flags after them, and the line state they leave. -/

namespace Sys2Proof.Machine

/-- From `s` to `t` nothing but notices of the link and the flags listed, with NOTICE_DROP, has changed in the Link Port and
the Line Controller (R154, R171, R172). -/
structure Tells (s t : State) (flags : List FaultFlag) : Prop where
  link : t.link = { s.link with notices := t.link.notices, tx := t.link.tx }
  tx : (s.link.tx ≠ .free ∨ s.link.slot ≠ none) → t.link.tx = s.link.tx
  notices : NoticesKept s.link t.link
  flags : ∀ f, f ∉ flags → f ≠ .noticeDrop → t.flag f = s.flag f
  cause : t.ctrl.resetCause = s.ctrl.resetCause
  line : t.ctrl.line = s.ctrl.line
  motion : t.ctrl.motion = s.ctrl.motion
  bounds : s.linkWf → t.linkWf

/-- With a transmitter busy or a reply waiting no queued notice can begin (R174). -/
theorem noticeCanBegin_eq_false {l : Link} (h : l.tx ≠ .free ∨ l.slot ≠ none) : l.noticeCanBegin = false := by
  unfold Link.noticeCanBegin
  rcases h with h | h
  · simp [h]
  · simp [Option.isNone_eq_false_iff, Option.isSome_iff_ne_none.mpr h]

namespace Tells

variable {s t u : State} {fs gs hs : List FaultFlag}

/-- With the same Link Port and Line Controller nothing was told. -/
theorem of_same (hl : t.link = s.link) (hc : t.ctrl = s.ctrl) : Tells s t fs := by
  refine ⟨by rw [hl], fun _ => by rw [hl], hl ▸ .refl _, fun f _ _ => ?_, by rw [hc], by rw [hc], by rw [hc], fun h => ?_⟩
  · rw [State.flag, State.flag, hc]
  · rwa [State.linkWf, hl]

/-- Nothing has happened. -/
theorem refl (s : State) : Tells s s fs := of_same rfl rfl

/-- More flags may have changed. -/
theorem mono (h : Tells s t fs) (sub : fs ⊆ gs) : Tells s t gs :=
  { h with flags := fun f hf hd => h.flags f (fun m => hf (sub m)) hd }

/-- One thing after the other. -/
theorem trans (h : Tells s t fs) (g : Tells t u fs) : Tells s u fs where
  link := by rw [g.link, h.link]
  tx hb := by
    have slot : t.link.slot = s.link.slot := by rw [h.link]
    rw [g.tx (by rwa [h.tx hb, slot]), h.tx hb]
  notices := h.notices.trans g.notices (by rw [h.link])
  flags f hf hd := (g.flags f hf hd).trans (h.flags f hf hd)
  cause := g.cause.trans h.cause
  line := g.line.trans h.line
  motion := g.motion.trans h.motion
  bounds b := g.bounds (h.bounds b)

/-- An offer (R171, R172). -/
theorem offer (s : State) (n : Notice) : Tells s (s.offer n) fs where
  link := s.link_offer n
  tx h := s.tx_offer n (noticeCanBegin_eq_false h)
  notices := s.noticesKept_offer n
  flags _ _ hd := s.flag_offer n hd
  cause := s.resetCause_offer n
  line := s.line_offer n
  motion := s.motion_ctrl_offer n
  bounds := (s.sameBlocks_offer n).link

/-- An occurrence of a flag (R154, R160). -/
theorem occur (s : State) {f : FaultFlag} (hf : f ∈ fs) : Tells s (s.occur f) fs where
  link := s.link_occur f
  tx h := s.tx_occur f (noticeCanBegin_eq_false h)
  notices := s.noticesKept_occur f
  flags _ hg hd := s.flag_occur f (fun e => hg (e ▸ hf)) hd
  cause := s.resetCause_occur f
  line := s.line_occur f
  motion := s.motion_ctrl_occur f
  bounds := (s.sameBlocks_occur f).link

/-- Something told, then an offer. -/
theorem offer' (h : Tells s t fs) (n : Notice) : Tells s (t.offer n) fs := h.trans (offer t n)

/-- Something told, then an occurrence. -/
theorem occur' (h : Tells s t fs) {f : FaultFlag} (hf : f ∈ fs) : Tells s (t.occur f) fs := h.trans (occur t hf)

/-- Something told, then a change of other blocks. -/
theorem after (h : Tells s t fs) (hl : u.link = t.link) (hc : u.ctrl = t.ctrl) : Tells s u fs := h.trans (of_same hl hc)

/-- A fold of such steps. -/
theorem foldl {α : Type} {op : State → α → State} (each : ∀ t x, Tells t (op t x) fs) (xs : List α) (s : State) :
    Tells s (xs.foldl op s) fs :=
  foldl_keeps (P := fun t => Tells s t fs) (fun t x h => h.trans (each t x)) xs s (refl s)

end Tells

/-! ### Items (R55, R60 to R62, R66 to R69) -/

/-- A discard tells with a notice alone (R67). -/
theorem tells_discard (s : State) (tag : Nat) (why : DiscardReason) {fs} : Tells s (s.discard tag why) fs := by
  unfold State.discard
  split
  · split
    · exact (Tells.of_same (s := s) (t := s.removeRecord tag) rfl rfl).offer' _
    all_goals exact .refl s
  · exact .refl s

/-- A default that fails can set SCHED_FULL (R61). -/
theorem tells_defaultFailed (s : State) (tag : Nat) (c : Closing) (ps : List Placed) (full : Bool) {fs}
    (hf : .schedFull ∈ fs) : Tells s (s.defaultFailed tag c ps full) fs := by
  have set : Tells s (s.setDefaulted tag c ps .notScheduled) fs := .of_same rfl rfl
  unfold State.defaultFailed
  dsimp only
  split
  · exact (set.occur' hf).offer' _
  · exact set.offer' _

/-- A lane default can set SCHED_FULL (R60, R61). -/
theorem tells_applyDefault (s : State) (r : ItemRecord) (c : Closing) {fs} (hf : .schedFull ∈ fs) :
    Tells s (s.applyDefault r c) fs := by
  unfold State.applyDefault
  dsimp only
  split
  · exact (Tells.of_same (s := s) (t := s.setDefaulted r.tag c [] .pending) rfl rfl).offer' _
  split
  · split
    · rename_i placed _
      exact (Tells.of_same (s := s) (t := State.setDefaulted { s with sched := placed } r.tag c _ .pending) rfl rfl).offer' _
    · exact tells_defaultFailed s _ c _ true hf
    · exact tells_defaultFailed s _ c _ true hf
  · exact tells_defaultFailed s _ c _ false hf

/-- A closing tells with ITEM_ENTERED, and its default can set SCHED_FULL (R54, R66). -/
theorem tells_closeItem (s : State) (tag : Nat) (p : Pos) (n m : Nat) (b e : Bool) {fs} (hf : .schedFull ∈ fs) :
    Tells s (s.closeItem tag p n m b e) fs := by
  unfold State.closeItem
  split
  · split
    · rename_i r _ _ _
      have entered := fun k => (Tells.of_same (t := s.updateRecord tag (fun _ =>
        r.closed ⟨p, n, addOffset p m⟩ b e)) (s := s) (fs := fs) rfl rfl).offer' k
      dsimp only
      split
      · exact (entered _).trans (tells_applyDefault _ _ _ hf)
      · exact entered _
    all_goals exact .refl s
  · exact .refl s

/-- A retirement tells with a notice alone (R69). -/
theorem tells_retire (s : State) (tag : Nat) {fs} : Tells s (s.retire tag) fs := by
  have removed : Tells s (s.retireRemoval tag) fs := .of_same (by simp) (by simp)
  unfold State.retire
  dsimp only
  split
  · rename_i r _
    exact (removed.after (u := (s.retireRemoval tag).removeRecord tag) (by simp) (by simp)).offer' _
  · exact removed

/-- The check of a record can set SCHED_FULL (R56, R61). -/
theorem tells_checkRecord (s : State) (p : Pos) (tag : Nat) {fs} (hf : .schedFull ∈ fs) :
    Tells s (State.checkRecord p s tag) fs := by
  unfold State.checkRecord
  split
  · exact .refl s
  split
  · exact .refl s
  · split
    · dsimp only
      split
      · exact (tells_applyDefault s _ _ hf).trans (tells_retire _ _)
      · exact tells_applyDefault s _ _ hf
    · exact .refl s
  · split
    · exact tells_retire s _
    · exact .refl s
  · split
    · exact tells_retire s _
    · exact .refl s

/-! ### Lanes (R31, R41 to R45) -/

/-- A present edge can set TABLE_FULL (R42). -/
theorem tells_askRecord (s : State) (l : Fin 8) (c : Candidate) {fs} (hf : .tableFull ∈ fs) :
    Tells s (s.askRecord l c) fs := by
  unfold State.askRecord
  split
  · exact .of_same rfl rfl
  · exact (Tells.of_same (s := s) (t := s.putLaneState l (.blocked .full)) rfl rfl).occur' hf

/-- A trailing edge tells what its closing or discard tells (R43). -/
theorem tells_closeByEdge (s : State) (l : Fin 8) (o : OpenCapture) (c : Candidate) {fs} (hf : .schedFull ∈ fs) :
    Tells s (s.closeByEdge l o c) fs := by
  have clear : Tells s (s.putLaneState l .clear) fs := .of_same rfl rfl
  unfold State.closeByEdge
  dsimp only
  split
  · exact clear.trans (tells_closeItem _ _ _ _ _ _ _ hf)
  · exact clear.trans (tells_discard _ _ _)

/-- A closing by the max length sets EYE_BLOCKED (R44). -/
theorem tells_closeByLength (s : State) (u : Update) (l : Fin 8) {fs} (hf : .schedFull ∈ fs) (he : .eyeBlocked ∈ fs) :
    Tells s (State.closeByLength u s l) fs := by
  unfold State.closeByLength
  split
  · rename_i o _
    have closed := tells_closeItem s o.tag o.maxPoint o.maxLength o.exitOffset true (o.estimated || u.source.estimates) hf
    exact (closed.after (by simp) (by simp)).occur' he
  · exact .refl s

/-- A reversal tells with the notices of its discards (R45). -/
theorem tells_abandonByReversal (s : State) (l : Fin 8) {fs} : Tells s (s.abandonByReversal l) fs := by
  unfold State.abandonByReversal
  split
  · exact Tells.trans (.of_same (t := s.putLaneState l _) rfl rfl) (tells_discard _ _ _)
  · exact .refl s

/-- A confirmed edge can set TABLE_FULL and SCHED_FULL (R42, R61). -/
theorem tells_confirmEdge (s : State) (l : Fin 8) (c : Candidate) {fs} (ht : .tableFull ∈ fs) (hf : .schedFull ∈ fs) :
    Tells s (s.confirmEdge l c) fs := by
  have confirmed : Tells s (s.putLane l { s.lane l with confirmed := c.level, candidate := none }) fs := .of_same rfl rfl
  unfold State.confirmEdge
  dsimp only
  split
  · exact confirmed
  · split
    · split
      · exact .of_same rfl rfl
      · exact confirmed.trans (tells_askRecord _ _ _ ht)
    · exact confirmed
  · split
    · exact confirmed
    · exact confirmed.trans (tells_closeByEdge _ _ _ _ hf)
  · split
    · exact confirmed
    · exact .of_same rfl rfl

/-- A SET_LANE tells with the notice of a discard alone (R31). -/
theorem tells_applyLane (s : State) (l : Fin 8) (q : LaneParams) {fs} : Tells s (s.applyLane l q) fs := by
  have given : Tells s (s.putLane l { s.lane l with cfg := q }) fs := .of_same rfl rfl
  have abandoned : ∀ t : State, Tells t (t.abandonByLane l) fs := fun t => by
    unfold State.abandonByLane
    split
    · exact tells_discard _ _ _
    · exact .refl t
  unfold State.applyLane
  dsimp only
  split
  · exact (given.trans (abandoned _)).after (by simp) (by simp)
  split
  · split
    · exact .of_same rfl rfl
    · exact given
  split
  · exact (given.trans (abandoned _)).after (by simp) (by simp)
  · exact given

/-! ### Valves and rail (R126, R152, R153) -/

/-- An overtime sets VALVE_OVERTIME (R126). -/
theorem tells_overtimeOf (s : State) (v : Fin 16) {fs} (hf : .valveOvertime ∈ fs) : Tells s (s.overtimeOf v) fs := by
  unfold State.overtimeOf
  split
  · exact ((Tells.of_same (by simp) (by simp)).occur' hf).offer' _
  · exact .refl s

/-- The last microsecond of an active time can set VALVE_OVERTIME (R126). -/
theorem tells_lastMicro (s : State) (v : Fin 16) {fs} (hf : .valveOvertime ∈ fs) : Tells s (s.lastMicro v) fs := by
  have counted : Tells s (s.putValve v { s.valve v with active := (s.valve v).active + 1 }) fs := .of_same rfl rfl
  unfold State.lastMicro
  dsimp only
  split
  · split
    · exact counted.trans (tells_overtimeOf _ _ hf)
    · exact counted.trans (.of_same (by simp) (by simp))
  · exact counted

/-- A fall of the rail sets RAIL_LOW (R152). -/
theorem tells_railFalls (s : State) {fs} (hf : .railLow ∈ fs) : Tells s s.railFalls fs := by
  have cut := Tells.foldl (op := State.railCut) (fs := fs) (fun t v => .of_same (by simp) (by simp)) allValves
    ({ s with rail := ⟨.low, 0⟩, drive := { s.drive with rail := .low } } : State)
  have low : Tells s ({ s with rail := ⟨.low, 0⟩, drive := { s.drive with rail := .low } } : State) fs := .of_same rfl rfl
  unfold State.railFalls
  dsimp only
  exact ((low.trans cut).occur' hf).offer' _

/-- A rise of the rail tells with a notice alone (R153). -/
theorem tells_railRises (s : State) {fs} : Tells s s.railRises fs :=
  (Tells.of_same (s := s) (t := { s with rail := ⟨.normal, 0⟩, drive := { s.drive with rail := .normal } }) rfl rfl).offer' _

/-! ### The line (R145 to R149) -/

/-- A line that leaves ARMED: its link and its flags but TRACK_HALT are those of the events that go with it (R149). -/
theorem State.linkWf_halt (s : State) (why : HaltCause) (h : s.linkWf) : (s.halt why).linkWf := by
  unfold State.halt
  split
  · refine ((Tells.occur _ (fs := [.trackHalt]) (by simp)).offer' _).bounds ?_
    simpa [State.linkWf, State.putLine] using h
  · exact h

end Sys2Proof.Machine
end

section
/-! PROOFS. The invariants of the link's queues and of the line (Table 7-2, R135, R167, R171). -/

namespace Sys2Proof.Machine

/-! ### The queues of the link (R167, R171) -/

/-- The bounds are read from the Link Port. -/
theorem State.linkWf_of_link {s t : State} (h : t.link = s.link) (hs : s.linkWf) : t.linkWf := by
  rwa [State.linkWf, h]

/-- Every operation keeps the bounds of the link's queues. -/
theorem keptByOperations_linkWf : KeptByOperations State.linkWf where
  ofStores s t st hs := st.link hs
  closeByLength u s l hs := (tells_closeByLength s u l (fs := FaultFlag.all) (by decide) (by decide)).bounds hs
  checkRecord p s tag hs := (tells_checkRecord s p tag (fs := FaultFlag.all) (by decide)).bounds hs
  examineValve p s v hs := State.linkWf_of_link (by simp) hs
  abandonByReversal s l hs := (tells_abandonByReversal s l (fs := [])).bounds hs
  motionCut s v hs := State.linkWf_of_link (by simp) hs
  halt s why hs := s.linkWf_halt why hs
  restartValve s v hs := State.linkWf_of_link (by simp) hs
  lane s l q hs := (tells_applyLane s l q (fs := [])).bounds hs
  valve s v q _ _ hs := hs
  hold s v d hs := hs
  test s v d _ _ _ _ _ hs := State.linkWf_of_link (by simp) hs
  enable s v hs := State.linkWf_of_link (by simp) hs
  disable s v hs := State.linkWf_of_link (by simp) hs
  arm s _ hs := by
    have active : (allLanes.foldl State.activateIfEnabled (s.putLine .armed)).link = s.link :=
      foldl_same (g := State.link) (fun t l => by simp) allLanes (s.putLine .armed)
    exact (Tells.offer _ _ (fs := [])).bounds (State.linkWf_of_link active hs)
  disarm s hs := (Tells.offer _ _ (fs := [])).bounds
    (State.linkWf_of_link (t := (s.putLine .config).leaveArmed) (by simp) hs)
  verdict s r c ps placed _ _ _ _ _ hs := hs
  pass s r c _ _ _ hs := hs
  cancel s tag _ hs := State.linkWf_of_link (by simp) hs
  reset s cause settings := ⟨by simp [State.resetPart, Link.reset], by simp [State.resetPart, Link.reset]⟩
  tickValve s v hs := hs
  filter s l raw candidate hs := hs
  confirmEdge s l c hs := (tells_confirmEdge s l c (fs := FaultFlag.all) (by decide) (by decide)).bounds hs
  pullIn s v hs := State.linkWf_of_link (by simp) hs
  overtime s v hs := (tells_overtimeOf s v (fs := FaultFlag.all) (by decide)).bounds hs
  testEnd s v hs := State.linkWf_of_link (by simp) hs
  lastMicro s v hs := (tells_lastMicro s v (fs := FaultFlag.all) (by decide)).bounds hs
  period s v hs := State.linkWf_of_link (by simp) hs
  onTime s v hs := State.linkWf_of_link (by simp) hs
  railFalls s hs := (tells_railFalls s (fs := FaultFlag.all) (by decide)).bounds hs
  railRises s hs := (tells_railRises s (fs := [])).bounds hs

/-! ### What the PWM leaves of a valve (R121 to R124) -/

/-- A write that keeps the state of a valve keeps the state of each. -/
theorem State.state_putValve {s : State} {v : Fin 16} {x : Valve} (h : x.state = (s.valve v).state) (w : Fin 16) :
    ((s.putValve v x).valve w).state = (s.valve w).state := by
  rw [State.valve_putValve]
  split
  · rename_i e
    exact e ▸ h
  · rfl

/-- The pending duty becoming current leaves the valve states (R123). -/
@[simp] theorem State.state_takePending (s : State) (v w : Fin 16) :
    ((s.takePending v).valve w).state = (s.valve w).state := State.state_putValve (by rfl) w

/-- The place in the period leaves the valve states (R122). -/
@[simp] theorem State.state_refreshHold (s : State) (v w : Fin 16) :
    ((s.refreshHold v).valve w).state = (s.valve w).state := by
  unfold State.refreshHold
  split
  · exact State.state_putValve (by rfl) w
  · rfl

/-- A restart of the base leaves the valve states (R124). -/
@[simp] theorem State.state_restartValve (s : State) (v w : Fin 16) :
    ((s.restartValve v).valve w).state = (s.valve w).state := by
  unfold State.restartValve
  split <;> simp

/-- A period start leaves the valve states (R121 to R123). -/
@[simp] theorem State.state_periodStart (s : State) (v w : Fin 16) :
    ((s.periodStart v).valve w).state = (s.valve w).state :=
  (State.state_refreshHold _ v w).trans (State.state_takePending _ v w)

/-- The end of the on time leaves the valve states (R122). -/
@[simp] theorem State.state_onTimeEnd (s : State) (v w : Fin 16) :
    ((s.onTimeEnd v).valve w).state = (s.valve w).state := by
  unfold State.onTimeEnd
  dsimp only
  split
  · exact State.state_putValve (by rfl) w
  · rfl

/-! ### DISABLED valves (R135) -/

/-- R135 stays true where a valve that is DISABLED now has an empty queue, or was DISABLED and its queue stays empty. -/
theorem State.disabledWf_of {s t : State} (hs : s.disabledWf)
    (h : ∀ v, (t.valve v).state = .disabled →
      t.queue v = [] ∨ ((s.valve v).state = .disabled ∧ (s.queue v = [] → t.queue v = []))) : t.disabledWf := fun v hv => by
  rcases h v hv with empty | ⟨was, keep⟩
  · exact empty
  · exact keep (hs v was)

/-- With the same valves and queues of DISABLED valves that stay empty R135 stays true. -/
theorem State.disabledWf_of_drive {s t : State} (hs : s.disabledWf) (hd : t.drive = s.drive)
    (hq : ∀ v, (s.valve v).state = .disabled → s.queue v = [] → t.queue v = []) : t.disabledWf :=
  State.disabledWf_of hs fun v hv => by
    rw [State.valve_of_drive hd] at hv
    exact .inr ⟨hv, hq v hv⟩

/-- With the same queues and no valve newly DISABLED R135 stays true. -/
theorem State.disabledWf_of_sched {s t : State} (hs : s.disabledWf) (hq : t.sched = s.sched)
    (hv : ∀ v, (t.valve v).state = .disabled → (s.valve v).state = .disabled) : t.disabledWf :=
  State.disabledWf_of hs fun v d => .inr ⟨hv v d, fun e => by rwa [State.queue_of_sched hq]⟩

/-- Joining contributions changes the queues of their valves alone (R95). -/
theorem Schedule.queue_join {c c' : Schedule} {gap : Fin 16 → Nat} {w : Fin 16} : ∀ {rs : List Request},
    c.join gap rs = some c' → (∀ r ∈ rs, r.valve ≠ w) → c'.queues[w] = c.queues[w]
  | [], h, _ => by
    cases h
    rfl
  | r :: rs, h, hw => by
    unfold Schedule.join at h
    split at h
    · cases h
    · rw [Schedule.queue_join h (fun x hx => hw x (List.mem_cons_of_mem _ hx))]
      have other : r.valve.val ≠ w.val := fun e => hw r List.mem_cons_self (Fin.ext e)
      simp [other]

/-- An admission is a joining that fits (R98). -/
theorem Schedule.takeAll_admitted {c c' : Schedule} {gap : Fin 16 → Nat} {rs : List Request}
    (h : c.takeAll gap rs = .admitted c') : c.join gap rs = some c' ∧ c'.slotsInUse ≤ 128 := by
  unfold Schedule.takeAll at h
  split at h
  · cases h
  · rename_i placed joined
    split at h
    · rename_i fits
      cases h
      exact ⟨joined, fits⟩
    · cases h

/-- An admission changes the queues of its targets' valves alone (R95). -/
theorem State.queue_admission {s : State} {tag : Nat} {ps : List Placed} {placed : Schedule} {w : Fin 16}
    (h : s.admission tag ps = .admitted placed) (hw : ∀ p ∈ ps, p.valve ≠ w) : placed.queues[w] = s.queue w := by
  refine Schedule.queue_join (Schedule.takeAll_admitted h).1 fun r hr => ?_
  unfold requestsOf at hr
  obtain ⟨⟨p, k⟩, hp, rfl⟩ := List.mem_map.mp hr
  exact hw p (List.fst_mem_of_mem_zipIdx hp)

/-- An admission of enabled targets leaves the queue of a DISABLED valve (R77). -/
theorem State.queue_admission_disabled {s : State} {tag : Nat} {ps : List Placed} {placed : Schedule} {w : Fin 16}
    (h : s.admission tag ps = .admitted placed) (enabled : ∀ p ∈ ps, s.isDisabled p.valve = false)
    (hw : (s.valve w).state = .disabled) : placed.queues[w] = s.queue w :=
  State.queue_admission h fun p hp e => by
    have := enabled p hp
    rw [State.isDisabled, e, hw] at this
    cases this

/-- A lane default leaves the queue of a DISABLED valve (R60). -/
theorem State.queue_applyDefault_disabled (s : State) (r : ItemRecord) (c : Closing) {w : Fin 16}
    (hw : (s.valve w).state = .disabled) : (s.applyDefault r c).queue w = s.queue w := by
  unfold State.applyDefault
  dsimp only
  split
  · exact State.queue_of_sched (by simp) w
  split
  · rename_i checks
    simp only [State.defaultChecks, Bool.and_eq_true, List.all_eq_true, Bool.not_eq_true'] at checks
    split
    · rename_i placed admitted
      rw [State.queue_of_sched (t := { s with sched := placed }) (by simp) w]
      exact State.queue_admission_disabled admitted (fun p hp => (checks.1.1 p hp).2) hw
    · exact State.queue_of_sched (by simp) w
    · exact State.queue_of_sched (by simp) w
  · exact State.queue_of_sched (by simp) w

/-- So does a closing (R54). -/
theorem State.queue_closeItem_disabled (s : State) (tag : Nat) (p : Pos) (n m : Nat) (b e : Bool) {w : Fin 16}
    (hw : (s.valve w).state = .disabled) : (s.closeItem tag p n m b e).queue w = s.queue w := by
  unfold State.closeItem
  split
  · split
    · dsimp only
      split
      · rw [State.queue_applyDefault_disabled _ _ _ (by rwa [State.valve_of_drive (t := s) (by simp)])]
        exact State.queue_of_sched (by simp) w
      · exact State.queue_of_sched (by simp) w
    all_goals rfl
  · rfl

/-- A retirement removes the tag's contributions from each queue (R110). -/
theorem State.queue_retireRemoval (s : State) (tag : Nat) (w : Fin 16) :
    (s.retireRemoval tag).queue w = retireInQueue tag (s.queue w) :=
  foldl_allValves (get := State.queue) (g := fun _ q => retireInQueue tag q)
    (fun t v => by simp [State.retireOnValve])
    (fun t v w h => by simp [State.retireOnValve, State.queue_putQueue, h]) s w

/-- A cancel removes the tag's contributions from the QUEUED actions of each queue (R109). -/
theorem State.queue_cancelRemoval (s : State) (tag : Nat) (w : Fin 16) :
    (s.cancelRemoval tag).queue w = cancelInQueue tag (s.queue w) :=
  foldl_allValves (get := State.queue) (g := fun _ q => cancelInQueue tag q)
    (fun t v => by simp [State.cancelOnValve])
    (fun t v w h => by simp [State.cancelOnValve, State.queue_putQueue, h]) s w

/-- The queues after a retirement (R62, R110). -/
theorem State.queue_retire (s : State) (tag : Nat) (w : Fin 16) :
    (s.retire tag).queue w = retireInQueue tag (s.queue w) := by
  rw [← s.queue_retireRemoval tag w]
  unfold State.retire
  dsimp only
  split
  · exact State.queue_of_sched (by simp) w
  · rfl

/-- The check of a record leaves an empty queue of a DISABLED valve empty (R56, R60, R62). -/
theorem State.queue_checkRecord_disabled (s : State) (p : Pos) (tag : Nat) {w : Fin 16}
    (hw : (s.valve w).state = .disabled) (hq : s.queue w = []) : (State.checkRecord p s tag).queue w = [] := by
  unfold State.checkRecord
  split
  · exact hq
  split
  · exact hq
  · split
    · dsimp only
      split
      · rw [State.queue_retire, State.queue_applyDefault_disabled s _ _ hw, hq]
        rfl
      · rw [State.queue_applyDefault_disabled s _ _ hw, hq]
    · exact hq
  all_goals
    split
    · rw [State.queue_retire, hq]
      rfl
    · exact hq

/-- A confirmed edge leaves the queue of a DISABLED valve (R43, R60). -/
theorem State.queue_confirmEdge_disabled (s : State) (l : Fin 8) (c : Candidate) {w : Fin 16}
    (hw : (s.valve w).state = .disabled) : (s.confirmEdge l c).queue w = s.queue w := by
  unfold State.confirmEdge
  dsimp only
  split
  · rfl
  · split
    · split
      · rfl
      · exact State.queue_of_sched (by simp) w
    · rfl
  · split
    · rfl
    · unfold State.closeByEdge
      dsimp only
      split
      · refine (State.queue_closeItem_disabled _ _ _ _ _ _ _ ?_).trans rfl
        exact hw
      · exact State.queue_of_sched (by simp) w
  · split <;> rfl

/-- A closing by the max length leaves the queue of a DISABLED valve (R44, R60). -/
theorem State.queue_closeByLength_disabled (u : Update) (s : State) (l : Fin 8) {w : Fin 16}
    (hw : (s.valve w).state = .disabled) : (State.closeByLength u s l).queue w = s.queue w := by
  unfold State.closeByLength
  split
  · rename_i o _
    rw [← State.queue_closeItem_disabled s o.tag o.maxPoint o.maxLength o.exitOffset true
      (o.estimated || u.source.estimates) hw]
    exact State.queue_of_sched (by simp) w
  · rfl

/-- A DISABLED valve stays DISABLED in an opening; no other becomes so (R118). -/
theorem State.disabled_startOpening (s : State) (v w : Fin 16) :
    ((s.startOpening v).valve w).state = .disabled ↔ (s.valve w).state = .disabled := by
  by_cases h : v = w
  · subst h
    unfold State.startOpening
    dsimp only
    (repeat' split) <;> simp_all
  · rw [State.valve_startOpening_ne s h]

/-- The examination of a queue disables no valve (R104 to R106). -/
theorem State.disabled_examineQueue (p : Pos) (v w : Fin 16) : ∀ (q : List Action) (s : State),
    ((State.examineQueue p v q s).valve w).state = .disabled → (s.valve w).state = .disabled
  | [], s, h => by
    rwa [State.examineQueue, State.valve_putQueue] at h
  | a :: as, s, h => by
    rw [State.examineQueue] at h
    split at h
    · split at h
      · have d := State.disabled_examineQueue p v w as _ h
        rw [State.valve_releaseValve] at d
        split at d
        · cases d
        · simpa using d
      · simpa using h
    · split at h
      · simpa using h
      split at h
      · simpa using State.disabled_examineQueue p v w as _ h
      · simpa using (State.disabled_startOpening _ v w).mp h

/-- A queue that is not this one's is left, one that is empty stays empty, by an examination (R104). -/
theorem State.queue_examineValve_nil (p : Pos) (s : State) (v w : Fin 16) (h : s.queue w = []) :
    (State.examineValve p s v).queue w = [] := by
  unfold State.examineValve
  by_cases e : v = w
  · subst e
    rw [h, State.examineQueue, State.queue_putQueue_self]
  · rw [(State.examineQueue_other p e _ s).1, h]

/-- A valve DISABLED after a write was so before, or was written DISABLED. -/
theorem State.disabled_putValve {s : State} {v w : Fin 16} {x : Valve}
    (hx : x.state = .disabled → (s.valve v).state = .disabled) (h : ((s.putValve v x).valve w).state = .disabled) :
    (s.valve w).state = .disabled := by
  rw [State.valve_putValve] at h
  split at h
  · rename_i e
    exact e ▸ hx h
  · exact h

/-- A cut leaves an empty queue empty (R107). -/
theorem State.queue_cutOpenAction_nil (s : State) (v w : Fin 16) (h : s.queue w = []) :
    (s.cutOpenAction v).queue w = [] := by
  rw [State.queue_cutOpenAction]
  split
  · rename_i e
    rw [e, h]
    rfl
  · exact h

/-- An overtime empties the queue of the valve it disables (R111, R126). -/
theorem State.queue_overtimeOf (s : State) (v w : Fin 16) : (s.overtimeOf v).queue w =
    if v = w ∧ (s.valve v).carrying = true then [] else s.queue w := by
  unfold State.overtimeOf
  by_cases hc : (s.valve v).carrying = true
  · rw [if_pos hc, State.queue_of_sched (t := ((s.putValve v _).purgeQueue v)) (by simp; rfl),
      State.queue_purgeQueue]
    simp [hc]
  · simp [hc]

/-- An overtime keeps R135: the valve it disables has its queue purged. -/
theorem State.disabledWf_overtimeOf {s : State} (v : Fin 16) (hs : s.disabledWf) : (s.overtimeOf v).disabledWf :=
  State.disabledWf_of hs fun w hw => by
    rw [State.valve_overtimeOf] at hw
    rw [State.queue_overtimeOf]
    split at hw
    · exact .inl (if_pos ‹_›)
    · exact .inr ⟨hw, fun hq => by rw [if_neg ‹_›, hq]⟩

/-- The end of a test disables no valve (R137). -/
theorem State.disabledWf_testEndOf {s : State} (v : Fin 16) (hs : s.disabledWf) : (s.testEndOf v).disabledWf :=
  State.disabledWf_of_sched hs (by simp) fun w hw => by
    rw [State.valve_testEndOf] at hw
    split at hw
    · cases hw
    · exact hw

/-- Every operation keeps R135. -/
theorem keptByOperations_disabledWf : KeptByOperations State.disabledWf where
  ofStores s t st hs v hv := by
    rw [st.valve] at hv
    rw [st.queue]
    exact hs v hv
  closeByLength u s l hs := State.disabledWf_of_drive hs (by simp) fun v hv hq => by
    rw [State.queue_closeByLength_disabled u s l hv, hq]
  checkRecord p s tag hs := State.disabledWf_of_drive hs (by simp) fun v hv hq =>
    State.queue_checkRecord_disabled s p tag hv hq
  examineValve p s v hs := State.disabledWf_of hs fun w hw =>
    .inr ⟨State.disabled_examineQueue p v w _ s hw, State.queue_examineValve_nil p s v w⟩
  abandonByReversal s l hs := State.disabledWf_of_drive hs (by simp) fun v _ hq => by
    rwa [State.queue_of_sched (t := s) (by simp)]
  motionCut s v hs := State.disabledWf_of hs fun w hw => .inr ⟨by
    rw [State.valve_motionCut] at hw
    split at hw
    · cases hw
    · exact hw, fun hq => by
    unfold State.motionCut
    split
    · exact State.queue_cutOpenAction_nil _ v w hq
    · exact hq⟩
  halt s why hs := by
    unfold State.halt
    split
    · exact State.disabledWf_of hs fun v _ => .inl (by
        rw [State.queue_of_sched (t := (s.putLine (.halted why)).leaveArmed) (by simp)]
        exact ((s.putLine (.halted why)).leftArmed.queues v).1)
    · exact hs
  restartValve s v hs := State.disabledWf_of_sched hs (by simp) fun w hw => by simpa using hw
  lane s l q hs := State.disabledWf_of_drive hs (by simp) fun v _ hq => by
    rwa [State.queue_of_sched (t := s) (by simp)]
  valve s v q _ _ hs := State.disabledWf_of_sched hs (by simp) fun w => State.disabled_putValve (by
    split
    · exact fun h => by cases h
    · exact id)
  hold s v d hs := State.disabledWf_of_sched hs rfl fun w => State.disabled_putValve id
  test s v d _ _ _ _ _ hs := State.disabledWf_of_sched hs (by simp) fun w => by
    unfold State.startTest
    dsimp only
    split <;> exact State.disabled_putValve fun h => by cases h
  enable s v hs := State.disabledWf_of_sched hs (by simp) fun w => by
    unfold State.enableValve
    split
    · exact State.disabled_putValve fun h => by cases h
    · exact id
  disable s v hs := by
    unfold State.disableValve
    split
    · exact hs
    · refine State.disabledWf_of hs fun w hw => ?_
      rw [State.valve_purgeQueue, State.valve_putValve] at hw
      rw [State.queue_purgeQueue]
      by_cases e : v = w
      · exact .inl (if_pos e)
      · rw [if_neg e] at hw
        exact .inr ⟨hw, fun hq => by rwa [if_neg e]⟩
  arm s _ hs := State.disabledWf_of_drive hs (by simp) fun v _ hq => by
    rwa [State.queue_of_sched (t := s) (by simp)]
  disarm s hs := State.disabledWf_of hs fun v _ => .inl (by
    unfold State.disarmLine
    rw [State.queue_of_sched (t := (s.putLine .config).leaveArmed) (by simp)]
    exact ((s.putLine .config).leftArmed.queues v).1)
  verdict s r c ps placed _ _ _ he ha hs := State.disabledWf_of_drive hs rfl fun v hv hq =>
    (State.queue_admission_disabled ha he hv).trans hq
  pass s r c _ _ _ hs := hs
  cancel s tag _ hs := State.disabledWf_of_drive hs (by simp) fun v _ hq => by
    rw [State.queue_cancelRemoval, hq]
    rfl
  reset s cause settings v _ := by simp [State.queue, State.resetPart, Schedule.reset]
  tickValve s v hs := State.disabledWf_of_sched hs rfl fun w => State.disabled_putValve id
  filter s l raw candidate hs := hs
  confirmEdge s l c hs := State.disabledWf_of_drive hs (by simp) fun v hv hq => by
    rw [State.queue_confirmEdge_disabled s l c hv, hq]
  pullIn s v hs := State.disabledWf_of_sched hs (by simp) fun w => by
    unfold State.pullInExpiry
    dsimp only
    split
    · exact State.disabled_putValve fun h => by cases h
    · exact State.disabled_putValve fun h => by cases h
    · exact id
  overtime s v hs := State.disabledWf_overtimeOf v hs
  testEnd s v hs := State.disabledWf_testEndOf v hs
  lastMicro s v hs := by
    have counted : (s.putValve v { s.valve v with active := (s.valve v).active + 1 }).disabledWf :=
      State.disabledWf_of_sched hs rfl fun w => State.disabled_putValve id
    unfold State.lastMicro
    dsimp only
    split
    · split
      · exact State.disabledWf_overtimeOf v counted
      · exact State.disabledWf_testEndOf v counted
    · exact counted
  period s v hs := State.disabledWf_of_sched hs (by simp) fun w hw => by simpa using hw
  onTime s v hs := State.disabledWf_of_sched hs (by simp) fun w hw => by simpa using hw
  railFalls s hs := State.disabledWf_of hs fun v hv => by
    rw [State.valve_railFalls] at hv
    rw [State.queue_railFalls]
    split at hv
    · cases hv
    · exact .inr ⟨hv, fun hq => by rw [if_neg ‹_›, hq]⟩
  railRises s hs := State.disabledWf_of_sched hs (by simp) fun w hw => by
    rwa [show s.railRises.valve w = s.valve w by simp [State.valve]] at hw

end Sys2Proof.Machine
end

section
/-! PROOFS. Outside ARMED nothing moves: the invariant of the line states (Table 7-2), and the active times that rest on
it. -/

namespace Sys2Proof.Machine

/-- The part outside ARMED: lanes OFF, table and queues empty, no valve in PULL_IN or HOLD (Table 7-2). -/
def State.quiet (s : State) : Prop := s.lanesAllOff ∧ s.storesEmpty ∧ s.noneCarrying

/-- An ARMED line asks nothing of Table 7-2. -/
theorem State.lineWf_armed {s : State} (h : s.ctrl.line = .armed) : s.lineWf :=
  ⟨fun n => absurd h n, fun n => absurd h n⟩

/-- What leaves lanes OFF, stores empty and valves at rest, with the same line, keeps Table 7-2. -/
theorem State.lineWf_of {s t : State} (hs : s.lineWf) (line : t.ctrl.line = s.ctrl.line)
    (lanes : ∀ l, (s.lane l).state = .off → (t.lane l).state = .off)
    (records : s.table.records = [] → t.table.records = [])
    (queues : ∀ v, s.queue v = [] → t.queue v = [])
    (carrying : ∀ v, (s.valve v).carrying = false → (t.valve v).carrying = false)
    (active : ∀ v, (s.valve v).isActive = false → (t.valve v).isActive = false) : t.lineWf := by
  refine ⟨fun n => ?_, fun n c v => ?_⟩
  · obtain ⟨off, ⟨empty, none⟩, rest⟩ := hs.1 (by rwa [line] at n)
    exact ⟨fun l => lanes l (off l), ⟨records empty, fun v => queues v (none v)⟩, fun v => carrying v (rest v)⟩
  · exact active v (hs.2 (by rwa [line] at n) (by rwa [line] at c) v)

/-- What leaves the stores keeps Table 7-2, if valves at rest stay so. -/
theorem State.lineWf_of_valves {s t : State} (hs : s.lineWf) (line : t.ctrl.line = s.ctrl.line)
    (lanes : t.lanes.lanes = s.lanes.lanes) (records : t.table.records = s.table.records) (sched : t.sched = s.sched)
    (carrying : ∀ v, (s.valve v).carrying = false → (t.valve v).carrying = false)
    (active : ∀ v, (s.valve v).isActive = false → (t.valve v).isActive = false) : t.lineWf :=
  State.lineWf_of hs line (fun l h => by simpa [State.lane, lanes] using h) (fun h => records.trans h)
    (fun v h => by rwa [State.queue_of_sched sched]) carrying active

/-- What changes no valve state keeps Table 7-2. -/
theorem State.lineWf_of_states {s t : State} (hs : s.lineWf) (line : t.ctrl.line = s.ctrl.line)
    (lanes : t.lanes.lanes = s.lanes.lanes) (records : t.table.records = s.table.records) (sched : t.sched = s.sched)
    (states : ∀ v, (t.valve v).state = (s.valve v).state) : t.lineWf :=
  State.lineWf_of_valves hs line lanes records sched
    (fun v h => by rwa [Valve.carrying, states v, ← Valve.carrying])
    (fun v h => by rwa [Valve.isActive, states v, ← Valve.isActive])

/-- What does nothing outside ARMED keeps Table 7-2. -/
theorem State.lineWf_of_still {s t : State} (hs : s.lineWf) (line : t.ctrl.line = s.ctrl.line)
    (still : s.ctrl.line ≠ .armed → s.quiet → t = s) : t.lineWf := by
  by_cases h : s.ctrl.line = .armed
  · exact State.lineWf_armed (line.trans h)
  · rwa [still h (hs.1 h)]

/-- A line that has left ARMED is as Table 7-2 says. -/
theorem State.lineWf_of_left {s t : State} (left : LeftArmed s t) : t.lineWf := by
  have idle : ∀ v, (t.valve v).isActive = false := fun v => by
    rw [left.valves v]
    split
    · rfl
    · rename_i h
      simpa using h
  refine ⟨fun _ => ⟨fun l => by rw [left.lanes l], ⟨by rw [left.table], fun v => (left.queues v).1⟩, fun v => ?_⟩,
    fun _ _ => idle⟩
  have h := idle v
  unfold Valve.isActive at h
  unfold Valve.carrying
  split <;> simp_all

/-- Offers and occurrences leave what Table 7-2 speaks of. -/
theorem State.lineWf_told {s t : State} (hs : s.lineWf) (h : SameBlocks s t) : t.lineWf := by
  refine State.lineWf_of_states hs h.line (by rw [h.lanes]) (by rw [h.table]) h.sched fun v => by
    rw [State.valve_of_drive h.drive]

/-- A valve at rest is left by the cuts, the end of a test and an overtime. -/
theorem Valve.carrying_of_idle {x : Valve} (h : x.isActive = false) : x.carrying = false := by
  unfold Valve.isActive at h
  unfold Valve.carrying
  split <;> simp_all

/-- A written valve that is at rest where the old one was. -/
theorem State.putValve_keeps {q : Valve → Bool} {s : State} {v : Fin 16} {x : Valve}
    (hx : q (s.valve v) = false → q x = false) (w : Fin 16) (h : q (s.valve w) = false) :
    q ((s.putValve v x).valve w) = false := by
  rw [State.valve_putValve]
  split
  · rename_i e
    exact hx (e ▸ h)
  · exact h

/-- An overtime of a valve at rest does nothing (R126). -/
theorem State.lineWf_overtimeOf {s : State} (v : Fin 16) (hs : s.lineWf) : (s.overtimeOf v).lineWf :=
  State.lineWf_of_still hs (tells_overtimeOf s v (fs := FaultFlag.all) (by decide)).line fun _ q => by
    unfold State.overtimeOf
    rw [if_neg (by simp [q.2.2 v])]

/-- The end of a test leaves the valve at rest (R137). -/
theorem State.lineWf_testEndOf {s : State} (v : Fin 16) (hs : s.lineWf) : (s.testEndOf v).lineWf := by
  refine State.lineWf_of_valves hs (by simp) (by simp) (by simp) (by simp) (fun w h => ?_) (fun w h => ?_) <;>
    rw [State.valve_testEndOf] <;> split
  · rfl
  · exact h
  · rfl
  · exact h

/-- Writing outcomes leaves no records none. -/
theorem State.records_writeOutcomes_nil {s : State} (o : TargetOutcome) (cs : List Contribution)
    (h : s.table.records = []) : (s.writeOutcomes o cs).table.records = [] := by
  have tags := s.tags_writeOutcomes o cs
  rw [h, List.map_nil] at tags
  exact List.map_eq_nil_iff.mp tags

/-- A cut leaves no records none. -/
theorem State.records_railFalls_nil {s : State} (h : s.table.records = []) : s.railFalls.table.records = [] := by
  have cut := foldl_keeps (P := fun t : State => t.table.records = []) (f := State.railCut) (fun t v ht => by
    unfold State.railCut
    split
    · exact State.records_writeOutcomes_nil _ _ ht
    · exact ht) allValves ({ s with rail := ⟨.low, 0⟩, drive := { s.drive with rail := .low } } : State) h
  unfold State.railFalls
  simpa using cut

/-- An OFF lane is closed by nothing (R44). -/
theorem State.closeByLength_off {s : State} {l : Fin 8} (u : Update) (h : (s.lane l).state = .off) :
    State.closeByLength u s l = s := by
  unfold State.closeByLength
  rw [h]

/-- An OFF lane has nothing to abandon (R45). -/
theorem State.abandonByReversal_off {s : State} {l : Fin 8} (h : (s.lane l).state = .off) :
    s.abandonByReversal l = s := by
  unfold State.abandonByReversal
  rw [h]

/-- A confirmed edge of an OFF lane moves its level alone (R37). -/
theorem State.confirmEdge_off {s : State} {l : Fin 8} (c : Candidate) (h : (s.lane l).state = .off) :
    s.confirmEdge l c = s.putLane l { s.lane l with confirmed := c.level, candidate := none } := by
  unfold State.confirmEdge
  rw [h]

/-- With no records there is none to check (R56). -/
theorem State.checkRecord_none {s : State} (p : Pos) (tag : Nat) (h : s.table.records = []) :
    State.checkRecord p s tag = s := by
  simp [State.checkRecord, State.record?, h]

/-- An ARM leaves an ARMED line (R145). -/
@[simp] theorem State.line_armLine (s : State) : s.armLine.ctrl.line = .armed := by
  have h := foldl_same (f := State.activateIfEnabled) (g := fun t : State => t.ctrl) (fun t l => by simp) allLanes
    (s.putLine .armed)
  unfold State.armLine
  simp [h]

/-- With no valve carrying, a motion cut does nothing (R129). -/
theorem State.motionCut_idle {s : State} {v : Fin 16} (h : (s.valve v).carrying = false) : s.motionCut v = s := by
  simp [State.motionCut, h]

/-- A lane write that leaves an OFF lane OFF. -/
theorem State.lane_putLane_off {s : State} {l : Fin 8} {x : Lane} (hx : (s.lane l).state = .off → x.state = .off)
    (k : Fin 8) (h : (s.lane k).state = .off) : ((s.putLane l x).lane k).state = .off := by
  rw [State.lane_putLane]
  split
  · rename_i e
    exact hx (e ▸ h)
  · exact h

/-- A lane write keeps Table 7-2 where it leaves an OFF lane OFF. -/
theorem State.lineWf_putLane {s : State} {l : Fin 8} {x : Lane} (hs : s.lineWf)
    (hx : (s.lane l).state = .off → x.state = .off) : (s.putLane l x).lineWf :=
  State.lineWf_of hs rfl (State.lane_putLane_off hx) id (fun _ => id) (fun _ => id) (fun _ => id)

/-- Of two writes to a lane the second stands. -/
theorem State.putLane_putLane (s : State) (l : Fin 8) (x y : Lane) : (s.putLane l x).putLane l y = s.putLane l y := by
  simp [State.putLane]

/-- A SET_LANE outside ARMED leaves the lane OFF (R31). -/
theorem State.applyLane_off {s : State} {l : Fin 8} (q : LaneParams) (hl : s.ctrl.line ≠ .armed)
    (h : (s.lane l).state = .off) : s.applyLane l q = s.putLane l { s.lane l with cfg := q } := by
  have off : (s.putLane l { s.lane l with cfg := q }).abandonByLane l = s.putLane l { s.lane l with cfg := q } := by
    unfold State.abandonByLane
    simp [h]
  have same : (s.putLane l { s.lane l with cfg := q }).putLaneState l .off = s.putLane l { s.lane l with cfg := q } := by
    rw [State.putLaneState, State.lane_putLane_self, State.putLane_putLane]
    simp only [h]
  unfold State.applyLane
  dsimp only
  rw [if_neg hl]
  split
  · rw [off, same]
  split
  · rfl
  split
  · rename_i armed
    simp [hl] at armed
  · rfl

/-- Every operation keeps Table 7-2. -/
theorem keptByOperations_lineWf : KeptByOperations State.lineWf where
  ofStores s t st hs := State.lineWf_of hs st.line (fun l h => by rwa [st.lane]) (fun h => st.records.trans h)
    (fun v h => by rwa [st.queue]) (fun v h => by rwa [st.valve]) (fun v h => by rwa [st.valve])
  closeByLength u s l hs := State.lineWf_of_still hs
    (tells_closeByLength s u l (fs := FaultFlag.all) (by decide) (by decide)).line fun _ q =>
      State.closeByLength_off u (q.1 l)
  checkRecord p s tag hs := State.lineWf_of_still hs
    (tells_checkRecord s p tag (fs := FaultFlag.all) (by decide)).line fun _ ⟨_, ⟨empty, _⟩, _⟩ =>
      State.checkRecord_none p tag empty
  examineValve p s v hs := State.lineWf_of_still hs (by simp) fun _ ⟨_, ⟨_, empty⟩, _⟩ =>
    State.examineValve_empty p s v (empty v)
  abandonByReversal s l hs := State.lineWf_of_still hs (tells_abandonByReversal s l (fs := [])).line fun _ q =>
    State.abandonByReversal_off (q.1 l)
  motionCut s v hs := State.lineWf_of_still hs (by simp) fun _ q => State.motionCut_idle (q.2.2 v)
  halt s why hs := by
    unfold State.halt
    split
    · have left := State.lineWf_of_left (s.putLine (.halted why)).leftArmed
      exact State.lineWf_told (State.lineWf_told left (State.sameBlocks_occur _ _)) (State.sameBlocks_offer _ _)
    · exact hs
  restartValve s v hs := State.lineWf_of_states hs (by simp) (by simp) (by simp) (by simp) (by simp)
  lane s l q hs := by
    by_cases armed : s.ctrl.line = .armed
    · exact State.lineWf_armed ((tells_applyLane s l q (fs := [])).line.trans armed)
    · rw [State.applyLane_off q armed ((hs.1 armed).1 l)]
      exact State.lineWf_putLane hs id
  valve s v q _ _ hs := State.lineWf_of_valves hs rfl rfl rfl rfl
    (State.putValve_keeps (by split <;> simp [Valve.carrying, Valve.release]))
    (State.putValve_keeps (by split <;> simp [Valve.isActive, Valve.release]))
  hold s v d hs := State.lineWf_of_states hs rfl rfl rfl rfl fun w => State.state_putValve (by rfl) w
  test s v d _ _ _ _ hl hs := by
    have ctrl : (s.startTest v d).ctrl = s.ctrl := by simp
    refine ⟨fun n => ?_, fun n c => ?_⟩
    · obtain ⟨off, ⟨records, queues⟩, rest⟩ := hs.1 (by rwa [ctrl] at n)
      refine ⟨fun l => by simpa [State.lane] using off l, ⟨by simpa using records, fun w => ?_⟩, fun w => ?_⟩
      · rw [State.queue_of_sched (t := s) (by simp), queues w]
      · unfold State.startTest
        dsimp only
        split <;> exact State.putValve_keeps (fun _ => rfl) w (rest w)
    · rw [ctrl] at n c
      cases e : s.ctrl.line with
      | config => exact absurd e c
      | armed => exact absurd e n
      | halted why => exact absurd e (hl why)
  enable s v hs := State.lineWf_of_valves hs (by simp) (by simp) (by simp) (by simp)
    (fun w h => by
      unfold State.enableValve
      split
      · exact State.putValve_keeps (fun _ => rfl) w h
      · exact h)
    (fun w h => by
      unfold State.enableValve
      split
      · exact State.putValve_keeps (fun _ => rfl) w h
      · exact h)
  disable s v hs := by
    unfold State.disableValve
    split
    · exact hs
    · refine State.lineWf_of hs (by simp) (fun l h => by simpa [State.lane] using h)
        (fun h => State.records_writeOutcomes_nil _ _ (State.records_writeOutcomes_nil _ _ h)) (fun w h => ?_)
        (fun w h => ?_) (fun w h => ?_)
      · rw [State.queue_purgeQueue]
        split
        · rfl
        · exact h
      · rw [State.valve_purgeQueue]
        exact State.putValve_keeps (fun _ => rfl) w h
      · rw [State.valve_purgeQueue]
        exact State.putValve_keeps (fun _ => rfl) w h
  arm s _ hs := State.lineWf_armed s.line_armLine
  disarm s hs := State.lineWf_told (State.lineWf_of_left (s.putLine .config).leftArmed) (State.sameBlocks_offer _ _)
  verdict s r c ps placed hl _ _ _ _ hs := State.lineWf_armed hl
  pass s r c hl _ _ hs := State.lineWf_armed hl
  cancel s tag hl hs := State.lineWf_armed (by simpa using hl)
  reset s cause settings := by
    have lanes : (State.resetPart s cause settings).lanesAllOff := by
      unfold State.lanesAllOff State.lane
      simp [State.resetPart, LaneInputs.reset, Fin.forall_fin_succ, Lane.reset]
    have valves : ∀ v, (State.resetPart s cause settings).valve v = .reset := fun v => by
      simp [State.valve, State.resetPart, Drive.reset]
    have queues : ∀ v, (State.resetPart s cause settings).queue v = [] := fun v => by
      simp [State.queue, State.resetPart, Schedule.reset]
    refine ⟨fun _ => ⟨lanes, ⟨rfl, queues⟩, fun v => ?_⟩, fun _ _ v => ?_⟩ <;> rw [valves v] <;> rfl
  tickValve s v hs := State.lineWf_of_states hs rfl rfl rfl rfl fun w => State.state_putValve (by rfl) w
  filter s l raw candidate hs := State.lineWf_putLane hs id
  confirmEdge s l c hs := by
    by_cases armed : s.ctrl.line = .armed
    · exact State.lineWf_armed ((tells_confirmEdge s l c (fs := FaultFlag.all) (by decide) (by decide)).line.trans armed)
    · rw [State.confirmEdge_off c ((hs.1 armed).1 l)]
      exact State.lineWf_putLane hs id
  pullIn s v hs := State.lineWf_of_valves hs (by simp) (by simp) (by simp) (by simp)
    (fun w h => by
      unfold State.pullInExpiry
      dsimp only
      split
      · rename_i hx
        exact State.putValve_keeps (fun n => absurd n (by simp [Valve.carrying, hx])) w h
      · exact State.putValve_keeps (fun _ => rfl) w h
      · exact h)
    (fun w h => by
      unfold State.pullInExpiry
      dsimp only
      split
      · rename_i hx
        exact State.putValve_keeps (fun n => absurd n (by simp [Valve.isActive, hx])) w h
      · rename_i d hx
        exact State.putValve_keeps (fun n => absurd n (by simp [Valve.isActive, hx])) w h
      · exact h)
  overtime s v hs := State.lineWf_overtimeOf v hs
  testEnd s v hs := State.lineWf_testEndOf v hs
  lastMicro s v hs := by
    have counted : (s.putValve v { s.valve v with active := (s.valve v).active + 1 }).lineWf :=
      State.lineWf_of_states hs rfl rfl rfl rfl fun w => State.state_putValve (by rfl) w
    unfold State.lastMicro
    dsimp only
    split
    · split
      · exact State.lineWf_overtimeOf v counted
      · exact State.lineWf_testEndOf v counted
    · exact counted
  period s v hs := State.lineWf_of_states hs (by simp) (by simp) (by simp) (by simp) (by simp)
  onTime s v hs := State.lineWf_of_states hs (by simp) (by simp) (by simp) (by simp) (by simp)
  railFalls s hs := State.lineWf_of hs (tells_railFalls s (fs := FaultFlag.all) (by decide)).line
    (fun l h => by simpa [State.lane] using h) State.records_railFalls_nil
    (fun v h => by
      rw [State.queue_railFalls, h]
      simp)
    (fun v h => by
      rw [State.valve_railFalls]
      split
      · rfl
      · exact h)
    (fun v h => by
      rw [State.valve_railFalls, h]
      exact h)
  railRises s hs := State.lineWf_of_states hs (tells_railRises s (fs := [])).line (by simp) (by simp) (by simp) fun v => by simp [State.valve]

/-- Settles O56: both invariants, each kept by every operation. -/
theorem everyStepKeepsTheLineStates : Obligations.EveryStepKeepsTheLineStates := by
  intro s t hl hd ht
  exact ⟨keptByOperations_lineWf.events.step hl ht, keptByOperations_disabledWf.events.step hd ht⟩

/-! ### Active times (R125, R126, R136, R137) -/

/-- The active time of one valve is below what ends it, whatever the rail. -/
def Valve.activeWfAt (_ : RailState) (x : Valve) : Prop := x.activeWf

/-- A valve that is not active has no time to watch. -/
theorem Valve.activeWf_idle {x : Valve} (h : x.isActive = false) (hm : 1 ≤ x.cfg.maxOpen) : x.activeWf := by
  refine ⟨fun a => absurd a (by simp [h]), fun ph d e => ?_, hm⟩
  simp [Valve.isActive, e] at h

/-- An opening whose time is below the max open time. -/
theorem Valve.activeWf_carrying {x : Valve} (h : x.carrying = true) (ha : x.active < x.cfg.maxOpen * 1000)
    (hm : 1 ≤ x.cfg.maxOpen) : x.activeWf := by
  refine ⟨fun _ => ha, fun ph d e => ?_, hm⟩
  simp [Valve.carrying, e] at h

/-- A test whose time is below its duration. -/
theorem Valve.activeWf_test {x : Valve} {ph : TestPhase} {d : Nat} (h : x.state = .test ph d) (h1 : 1 ≤ d)
    (hd : d ≤ x.cfg.maxOpen) (ha : x.active < d * 1000) : x.activeWf := by
  refine ⟨fun _ => Nat.lt_of_lt_of_le ha (Nat.mul_le_mul_right 1000 hd), fun ph' d' e => ?_, Nat.le_trans h1 hd⟩
  rw [h] at e
  cases e
  exact ⟨h1, hd, ha⟩

/-- An active valve is below its limit (R125). -/
theorem Valve.active_lt_limit {x : Valve} (h : x.activeWf) (ha : x.isActive = true) : x.active < x.activeLimit := by
  obtain ⟨below, test, _⟩ := h
  cases hx : x.state with
  | idle | disabled => simp [Valve.isActive, hx] at ha
  | pullIn | hold => simpa [Valve.activeLimit, hx] using below ha
  | test ph d => simpa [Valve.activeLimit, hx] using (test ph d hx).2.2

/-- Another active time below the limit keeps it (R125). -/
theorem Valve.activeWf_count {x : Valve} (n : Nat) (p : Nat) (hn : x.isActive = true → n < x.activeLimit)
    (h : x.activeWf) : Valve.activeWf { x with active := n, pull := p } := by
  obtain ⟨below, test, hm⟩ := h
  cases hx : x.state with
  | idle | disabled => exact Valve.activeWf_idle rfl hm
  | pullIn | hold =>
    have := hn (by simp [Valve.isActive, hx])
    refine Valve.activeWf_carrying rfl ?_ hm
    simpa [Valve.activeLimit, hx] using this
  | test ph d =>
    obtain ⟨h1, hd, _⟩ := test ph d hx
    have := hn (by simp [Valve.isActive, hx])
    exact Valve.activeWf_test rfl h1 hd (by simpa [Valve.activeLimit, hx] using this)

/-- Every operation on one valve keeps its active time below what ends it. -/
theorem keptByDrive_activeWf (r : RailState) : KeptByDrive (r = .normal) (Valve.activeWfAt r) where
  release x h := Valve.activeWf_idle rfl h.2.2
  ended x n _ h := Valve.activeWf_idle rfl h.2.2
  disable x n h := Valve.activeWf_idle rfl h.2.2
  enable x _ h := Valve.activeWf_idle rfl h.2.2
  duty x d e h := h
  out x b _ h := h
  hold x n b hx h := Valve.activeWf_carrying rfl (h.1 (by simp [Valve.isActive, hx])) h.2.2
  testHold x d n b hx h := by
    obtain ⟨h1, hd, below⟩ := h.2.1 .pull d hx
    exact Valve.activeWf_test rfl h1 hd below
  openPull x _ _ h := Valve.activeWf_carrying rfl (by have := h.2.2; dsimp only; omega) h.2.2
  openHold x b _ _ h := Valve.activeWf_carrying rfl (by have := h.2.2; dsimp only; omega) h.2.2
  takePull x d _ hx h := Valve.activeWf_carrying rfl (h.1 (by simp [Valve.isActive, hx])) h.2.2
  takeHold x d _ hx h := Valve.activeWf_carrying rfl (h.1 (by simp [Valve.isActive, hx])) h.2.2
  tick x h := by
    unfold Valve.tick
    refine Valve.activeWf_count _ _ (fun active => ?_) h
    split
    · rename_i below
      simpa [Valve.atLimit, active] using below
    · exact Valve.active_lt_limit h active
  micro x hx h := Valve.activeWf_count _ x.pull hx h

/-- A valve that SET_VALVE may configure carries nothing (R114, Table 7-2). -/
theorem State.carrying_of_configurable {s : State} {v : Fin 16} (hs : s.lineWf) (hc : s.configurable v = true) :
    (s.valve v).carrying = false := by
  simp only [State.configurable, Bool.or_eq_true, Bool.and_eq_true, beq_iff_eq] at hc
  rcases hc with config | ⟨idle | disabled, _⟩
  · exact (hs.1 (by rw [config]; decide)).2.2 v
  · simp [Valve.carrying, idle]
  · simp [Valve.carrying, disabled]

/-- The operations on all valves keep the active times, where Table 7-2 and R135 hold. -/
theorem keptByValves_activeWf : KeptByValves State.lineWf Valve.activeWfAt where
  drive := keptByDrive_activeWf
  valve s v q hq hc hs _ := by
    rw [State.applyValve, State.valve_putValve_self]
    refine Valve.activeWf_idle ?_ hq
    have rest := State.carrying_of_configurable hs hc
    split
    · rfl
    · rename_i other
      cases hx : (s.valve v).state <;> simp_all [Valve.isActive, Valve.carrying]
  test s v d h1 hd _ _ h := by
    unfold State.startTest
    dsimp only
    split <;> rw [State.valve_putValve_self] <;>
      exact Valve.activeWf_test rfl h1 hd (by dsimp only; omega)
  falls r x h := by
    split
    · exact Valve.activeWf_idle rfl h.2.2
    · exact h
  rises r x h := h
  reset := Valve.activeWf_idle rfl (by decide)

/-- Settles O57: outputs and active times, valve by valve. -/
theorem everyStepKeepsTheOutputs : Obligations.EveryStepKeepsTheOutputs := by
  refine ⟨fun s t hs ht => step_keeps_outputsWf hs ht, fun s t hl _ ha ht => ?_⟩
  exact ((keptByValves_activeWf.operations keptByOperations_lineWf).events.step ⟨hl, ha⟩ ht).2

end Sys2Proof.Machine
end

section
/-! PROOFS. Tags (R50): the first free value from the counter on. -/

namespace Sys2Proof.Machine

/-- The tag value some steps after one, 65,535 followed by 1 (R50). -/
def tagAfter (t k : Nat) : Nat := (t - 1 + k) % 65535 + 1

/-- No step leaves a tag value in range. -/
theorem tagAfter_zero {t : Nat} (h : 1 ≤ t ∧ t ≤ 65535) : tagAfter t 0 = t := by
  unfold tagAfter
  omega

/-- The successor is in range (R50). -/
theorem succTag_range {t : Nat} (h : 1 ≤ t) : 1 ≤ succTag t ∧ succTag t ≤ 65535 := by
  unfold succTag
  have : Config.maxTag = 65535 := rfl
  split <;> omega

/-- A step first, or last. -/
theorem tagAfter_succTag {t : Nat} (h : 1 ≤ t ∧ t ≤ 65535) (k : Nat) : tagAfter (succTag t) k = tagAfter t (k + 1) := by
  unfold tagAfter succTag
  have : Config.maxTag = 65535 := rfl
  split <;> omega

/-- Values fewer than 65,535 steps apart differ. -/
theorem tagAfter_inj {t i j : Nat} (hi : i < 65535) (hj : j < 65535) (h : tagAfter t i = tagAfter t j) : i = j := by
  unfold tagAfter at h
  omega

/-- The search passes over held values alone, and what it stops at within its tries is free (R50). -/
theorem freeTag_first (used : List Nat) : ∀ (n t : Nat), 1 ≤ t → t ≤ 65535 → ∃ k, k ≤ n ∧
    freeTag used n t = tagAfter t k ∧ (∀ j, j < k → tagAfter t j ∈ used) ∧ (k < n → tagAfter t k ∉ used)
  | 0, t, h1, h2 => ⟨0, Nat.le_refl 0, (tagAfter_zero ⟨h1, h2⟩).symm, fun j hj => absurd hj (Nat.not_lt_zero j),
      fun h => absurd h (Nat.not_lt_zero 0)⟩
  | n + 1, t, h1, h2 => by
    unfold freeTag
    split
    · rename_i held
      obtain ⟨k, hk, he, before, free⟩ := freeTag_first used n (succTag t) (succTag_range h1).1 (succTag_range h1).2
      refine ⟨k + 1, by omega, by rw [he, tagAfter_succTag ⟨h1, h2⟩], fun j hj => ?_, fun h => ?_⟩
      · cases j with
        | zero =>
          rw [tagAfter_zero ⟨h1, h2⟩]
          simpa using held
        | succ j =>
          rw [← tagAfter_succTag ⟨h1, h2⟩]
          exact before j (by omega)
      · rw [← tagAfter_succTag ⟨h1, h2⟩]
        exact free (by omega)
    · rename_i free
      rw [← tagAfter_zero ⟨h1, h2⟩] at free
      exact ⟨0, Nat.zero_le _, (tagAfter_zero ⟨h1, h2⟩).symm, fun j hj => absurd hj (Nat.not_lt_zero j),
        fun _ => by simpa using free⟩

/-- Of one more value than a list is long, not all stand in the list. -/
theorem tagAfter_not_mem_of_all {used : List Nat} {t : Nat} (small : used.length < 65535)
    (all : ∀ j, j < used.length → tagAfter t j ∈ used) : tagAfter t used.length ∉ used := by
  intro last
  have distinct : ((List.range (used.length + 1)).map (tagAfter t)).Nodup := by
    refine nodup_map_of_inj List.nodup_range fun i hi j hj e => ?_
    rw [List.mem_range] at hi hj
    exact tagAfter_inj (by omega) (by omega) e
  have within : (List.range (used.length + 1)).map (tagAfter t) ⊆ used := fun x hx => by
    obtain ⟨j, hj, rfl⟩ := List.mem_map.mp hx
    rcases Nat.lt_succ_iff_lt_or_eq.mp (List.mem_range.mp hj) with h | rfl
    · exact all j h
    · exact last
  have fits := distinct.length_le_of_subset within
  rw [List.length_map, List.length_range] at fits
  exact Nat.not_succ_le_self _ fits

/-- The tag a new record takes is the first free one (R50). -/
theorem tagToUse_first {t : Table} (h : t.wf) : t.tagToUse ∉ t.records.map ItemRecord.tag ∧
    ∃ k, k ≤ t.records.length ∧ t.tagToUse = tagAfter t.nextTag k ∧
      ∀ j, j < k → tagAfter t.nextTag j ∈ t.records.map ItemRecord.tag := by
  obtain ⟨few, _, _, low, high⟩ := h
  obtain ⟨k, hk, he, before, free⟩ := freeTag_first (t.records.map ItemRecord.tag) t.records.length t.nextTag low high
  refine ⟨?_, k, hk, he, before⟩
  rw [Table.tagToUse, he]
  rcases Nat.lt_or_eq_of_le hk with h | rfl
  · exact free h
  · have size : (t.records.map ItemRecord.tag).length = t.records.length := List.length_map _
    rw [← size] at before ⊢
    exact tagAfter_not_mem_of_all (by omega) before

/-- Settles O39, by the pigeonhole principle on the values tried. -/
theorem newRecordTakesTheFirstFreeTag : Obligations.NewRecordTakesTheFirstFreeTag := by
  intro t ht _
  exact tagToUse_first ht

/-- The tag a new record takes is in range (R50). -/
theorem tagToUse_range {t : Table} (h : t.wf) : 1 ≤ t.tagToUse ∧ t.tagToUse ≤ 65535 := by
  obtain ⟨_, k, _, he, _⟩ := tagToUse_first h
  rw [he, tagAfter]
  omega

end Sys2Proof.Machine
end

section
/-! PROOFS. The invariant of the stores (R49, R50, R62, R90 to R92). -/

namespace Sys2Proof.Machine

/-! ### Tags in the table (R49, R50) -/

/-- The records of `t` carry tags that the records of `s` carry, in their order, and the counter stands still. -/
structure TagsKept (s t : State) : Prop where
  tags : (t.table.records.map ItemRecord.tag).Sublist (s.table.records.map ItemRecord.tag)
  counter : t.table.nextTag = s.table.nextTag

namespace TagsKept

variable {s t u : State}

/-- With the same table. -/
theorem of_table (h : t.table = s.table) : TagsKept s t := ⟨h ▸ .refl _, by rw [h]⟩

/-- Nothing has happened. -/
theorem refl (s : State) : TagsKept s s := of_table rfl

/-- One thing after the other. -/
theorem trans (h : TagsKept s t) (g : TagsKept t u) : TagsKept s u :=
  ⟨g.tags.trans h.tags, g.counter.trans h.counter⟩

/-- The table stays within its bounds. -/
theorem wf (h : TagsKept s t) (hs : s.table.wf) : t.table.wf := by
  obtain ⟨few, distinct, range, low, high⟩ := hs
  refine ⟨?_, h.tags.nodup distinct, fun r hr => ?_, by rwa [h.counter], by rwa [h.counter]⟩
  · have := h.tags.length_le
    simp only [List.length_map] at this
    omega
  · obtain ⟨r', hr', e⟩ := List.mem_map.mp (h.tags.subset (List.mem_map_of_mem hr))
    rw [← e]
    exact range r' hr'

/-- A fold of such steps. -/
theorem foldl {α : Type} {op : State → α → State} (each : ∀ t x, TagsKept t (op t x)) (xs : List α) (s : State) :
    TagsKept s (xs.foldl op s) :=
  foldl_keeps (P := fun t => TagsKept s t) (fun t x h => h.trans (each t x)) xs s (refl s)

/-- Outcomes written (R63). -/
theorem writeOutcomes (s : State) (o : TargetOutcome) (cs : List Contribution) : TagsKept s (s.writeOutcomes o cs) :=
  ⟨(State.tags_writeOutcomes s o cs) ▸ .refl _, by simp⟩

/-- A record changed under its tag. -/
theorem updateRecord (s : State) (tag : Nat) {f : ItemRecord → ItemRecord}
    (hf : ∀ r ∈ s.table.records, r.tag = tag → (f r).tag = tag) : TagsKept s (s.updateRecord tag f) := by
  refine ⟨?_, rfl⟩
  have same : (s.updateRecord tag f).table.records.map ItemRecord.tag = s.table.records.map ItemRecord.tag := by
    simp only [State.updateRecord, State.records_putRecords, List.map_map]
    refine List.map_congr_left fun r hr => ?_
    simp only [Function.comp]
    split
    · rename_i e
      rw [hf r hr e, e]
    · rfl
  exact same ▸ .refl _

/-- A record removed (R49). -/
theorem removeRecord (s : State) (tag : Nat) : TagsKept s (s.removeRecord tag) :=
  ⟨by
    simp only [State.removeRecord, State.records_putRecords]
    exact List.filter_sublist.map _, rfl⟩

/-- An offer leaves the table. -/
theorem offer (h : TagsKept s t) (n : Notice) : TagsKept s (t.offer n) := h.trans (of_table (by simp))

/-- An occurrence leaves the table. -/
theorem occur (h : TagsKept s t) (f : FaultFlag) : TagsKept s (t.occur f) := h.trans (of_table (by simp))

/-- A change of other blocks. -/
theorem after (h : TagsKept s t) (ht : u.table = t.table) : TagsKept s u := h.trans (of_table ht)

end TagsKept

/-! ### Decided records (R62, R92) -/

/-- A record that carries the tag is DECIDED or DEFAULTED. -/
def State.decidedTag (s : State) (tag : Nat) : Prop := ∃ r ∈ s.table.records, r.tag = tag ∧ r.isDecided = true

/-- The record that carries a tag is the only one (R50). -/
theorem State.eq_of_record? {s : State} {tag : Nat} {r r' : ItemRecord} (hs : s.table.wf) (h : s.record? tag = some r)
    (hm : r' ∈ s.table.records) (ht : r'.tag = tag) : r' = r :=
  eq_of_nodup_map hs.2.1 hm (State.mem_of_record? h) (ht.trans (State.tag_of_record? h).symm)

/-- A change of the records of a tag leaves the records of every other tag. -/
theorem State.decidedTag_updateRecord {s : State} {tag tag' : Nat} {f : ItemRecord → ItemRecord}
    (hf : tag' = tag → ∀ r ∈ s.table.records, r.tag = tag → (f r).tag = tag ∧ (f r).isDecided = true)
    (h : s.decidedTag tag') : (s.updateRecord tag f).decidedTag tag' := by
  obtain ⟨r, hr, ht, hd⟩ := h
  by_cases e : r.tag = tag
  · obtain ⟨same, decided⟩ := hf (ht ▸ e) r hr e
    exact ⟨f r, List.mem_map.mpr ⟨r, hr, if_pos e⟩, same.trans (e ▸ ht), decided⟩
  · exact ⟨r, List.mem_map.mpr ⟨r, hr, if_neg e⟩, ht, hd⟩

/-- A removal leaves the records of every other tag (R49). -/
theorem State.decidedTag_removeRecord {s : State} {tag tag' : Nat} (hne : tag' ≠ tag) (h : s.decidedTag tag') :
    (s.removeRecord tag).decidedTag tag' := by
  obtain ⟨r, hr, ht, hd⟩ := h
  exact ⟨r, List.mem_filter.mpr ⟨hr, by simpa [ht] using hne⟩, ht, hd⟩

/-- An outcome written leaves a decided record decided (R63). -/
theorem State.decidedTag_writeOutcomes {s : State} {tag : Nat} (o : TargetOutcome) (cs : List Contribution)
    (h : s.decidedTag tag) : (s.writeOutcomes o cs).decidedTag tag := by
  refine foldl_keeps (P := fun t => State.decidedTag t tag) (fun t c ht => ?_) cs s h
  obtain ⟨r, hr, e, hd⟩ := ht
  refine ⟨_, List.mem_map.mpr ⟨r, hr, rfl⟩, ?_, ?_⟩
  · split
    · exact e
    · exact e
  · split
    · rw [ItemRecord.isDecided_mapTargets]
      exact hd
    · exact hd

/-! ### Queues that lose contributions (R91, R92) -/

/-- An action holds contributions of another one's tags, no more of them, and some if that has some. -/
structure Action.Within (a b : Action) : Prop where
  some : b.contribs ≠ [] → a.contribs ≠ []
  few : a.contribs.length ≤ b.contribs.length
  tags : ∀ c ∈ a.contribs, ∃ d ∈ b.contribs, d.tag = c.tag

namespace Action.Within

/-- An action holds what it holds. -/
theorem refl (a : Action) : a.Within a := ⟨id, Nat.le_refl _, fun c hc => ⟨c, hc, rfl⟩⟩

/-- One removal after the other. -/
theorem trans {a b c : Action} (h : a.Within b) (g : b.Within c) : a.Within c where
  some n := h.some (g.some n)
  few := Nat.le_trans h.few g.few
  tags k hk := by
    obtain ⟨l, hl, e⟩ := h.tags k hk
    obtain ⟨m, hm, e'⟩ := g.tags l hl
    exact ⟨m, hm, e'.trans e⟩

/-- An action within a good one is good (R91). -/
theorem wf {a b : Action} (h : a.Within b) (hb : b.wf) : a.wf := by
  obtain ⟨one, four⟩ := hb
  exact ⟨List.length_pos_iff.mpr (h.some (List.length_pos_iff.mp one)), Nat.le_trans h.few four⟩

end Action.Within

/-- A queue holds no more actions than another, each within one of that. -/
structure QueueWithin (q q' : List Action) : Prop where
  few : q.length ≤ q'.length
  actions : ∀ a ∈ q, ∃ b ∈ q', a.Within b

namespace QueueWithin

/-- A queue holds what it holds. -/
theorem refl (q : List Action) : QueueWithin q q := ⟨Nat.le_refl _, fun a ha => ⟨a, ha, .refl a⟩⟩

/-- One removal after the other. -/
theorem trans {p q r : List Action} (h : QueueWithin p q) (g : QueueWithin q r) : QueueWithin p r :=
  ⟨Nat.le_trans h.few g.few, fun a ha => by
    obtain ⟨b, hb, w⟩ := h.actions a ha
    obtain ⟨c, hc, w'⟩ := g.actions b hb
    exact ⟨c, hc, w.trans w'⟩⟩

/-- The empty queue holds nothing. -/
theorem nil (q : List Action) : QueueWithin [] q := ⟨Nat.zero_le _, by simp⟩

/-- Some of the actions. -/
theorem of_sublist {q q' : List Action} (h : q.Sublist q') : QueueWithin q q' :=
  ⟨h.length_le, fun a ha => ⟨a, h.subset ha, .refl a⟩⟩

/-- Actions changed or removed one by one. -/
theorem filterMap {f : Action → Option Action} (hf : ∀ a b, f a = some b → b.Within a) (q : List Action) :
    QueueWithin (q.filterMap f) q :=
  ⟨List.length_filterMap_le f q, fun b hb => by
    obtain ⟨a, ha, e⟩ := List.mem_filterMap.mp hb
    exact ⟨a, ha, hf a b e⟩⟩

/-- The rest of a queue. -/
theorem tail (a : Action) (q : List Action) : QueueWithin q (a :: q) := of_sublist (List.sublist_cons_self a q)

/-- Another head within the old one. -/
theorem head {a b : Action} (h : a.Within b) (q : List Action) : QueueWithin (a :: q) (b :: q) :=
  ⟨Nat.le_refl _, fun c hc => by
    rcases List.mem_cons.mp hc with rfl | hc
    · exact ⟨b, List.mem_cons_self, h⟩
    · exact ⟨c, List.mem_cons_of_mem b hc, .refl c⟩⟩

end QueueWithin

/-- An action without a tag holds no contribution of the tag, and nothing new (R108). -/
theorem Action.withoutTag_within {a b : Action} {tag : Nat} (h : a.withoutTag tag = some b) :
    b.Within a ∧ ∀ c ∈ b.contribs, c.tag ≠ tag := by
  rw [Action.withoutTag_eq, leftWithout] at h
  have kept : ∀ b' : Action, b'.contribs = a.contribs.filter (fun k => k.tag != tag) → b'.contribs ≠ [] → b'.Within a ∧
      ∀ c ∈ b'.contribs, c.tag ≠ tag := fun b' e n => by
    refine ⟨⟨fun _ => n, by rw [e]; exact List.length_filter_le _ _, fun c hc => ?_⟩, fun c hc => ?_⟩ <;> rw [e] at hc
    · exact ⟨c, (List.mem_filter.mp hc).1, rfl⟩
    · simpa using (List.mem_filter.mp hc).2
  split at h
  · rename_i all
    cases h
    refine ⟨.refl a, fun c hc => ?_⟩
    simpa using List.length_filter_eq_length_iff.mp all c hc
  split at h
  · cases h
  rename_i n
  split at h
  · cases h
    exact kept _ rfl n
  · cases h
    exact kept _ rfl n

/-- A retirement leaves no contribution of its tag (R110). -/
theorem retireInQueue_within (tag : Nat) (q : List Action) :
    QueueWithin (retireInQueue tag q) q ∧ ∀ a ∈ retireInQueue tag q, ∀ c ∈ a.contribs, c.tag ≠ tag :=
  ⟨.filterMap (fun _ _ h => (Action.withoutTag_within h).1) q, fun a ha => by
    obtain ⟨b, _, e⟩ := List.mem_filterMap.mp ha
    exact (Action.withoutTag_within e).2⟩

/-- A cancel adds nothing (R109). -/
theorem cancelInQueue_within (tag : Nat) (q : List Action) : QueueWithin (cancelInQueue tag q) q :=
  .filterMap (fun a b h => by
    split at h
    · exact (Action.withoutTag_within h).1
    · cases h
      exact .refl a) q

/-- A head carried on holds nothing new (R104). -/
theorem Action.carried_within (a : Action) (p : Pos) (adv : Advance) (h : a.over p adv = false) :
    (a.carried p adv).Within a := by
  have staying : a.staying p adv ≠ [] := by
    unfold Action.over at h
    simp only [Bool.or_eq_false_iff, List.isEmpty_eq_false_iff] at h
    exact h.2
  refine ⟨fun _ => by simpa [Action.carried] using staying, ?_, fun c hc => ?_⟩
  · simp only [Action.carried, List.length_map]
    exact List.length_filter_le _ _
  · simp only [Action.carried] at hc
    obtain ⟨d, hd, rfl⟩ := List.mem_map.mp hc
    refine ⟨d, (List.mem_filter.mp hd).1, ?_⟩
    unfold Contribution.advanced
    split <;> rfl

/-- What an examination leaves of a queue (R104 to R106). -/
theorem State.queue_examineQueue_within (p : Pos) (v : Fin 16) : ∀ (q : List Action) (s : State),
    QueueWithin ((State.examineQueue p v q s).queue v) q
  | [], s => by
    rw [State.examineQueue, State.queue_putQueue_self]
    exact .refl []
  | a :: as, s => by
    rw [State.examineQueue]
    have rest : ∀ t : State, QueueWithin ((State.examineQueue p v as t).queue v) (a :: as) := fun t =>
      (State.queue_examineQueue_within p v as t).trans (.tail a as)
    split
    · split
      · exact rest _
      · rename_i carries
        rw [State.queue_putQueue_self]
        exact .head (a.carried_within p _ (by simpa using carries)) as
    · split
      · rw [State.queue_putQueue_self]
        exact .refl _
      split
      · exact rest _
      · rename_i opens
        simp only [Bool.or_eq_true, not_or, Bool.not_eq_true] at opens
        rw [State.queue_of_sched (t := (State.putQueue _ v (a.carried p (s.advance v) :: as))) (by simp; rfl),
          State.queue_putQueue_self]
        exact .head (a.carried_within p _ opens.1) as

/-! ### Operations that add nothing to the stores -/

/-- From `s` to `t` tags and contributions can leave the stores, and decided records stay. -/
structure StoresShrink (s t : State) : Prop extends TagsKept s t where
  decided : ∀ tag, s.decidedTag tag → t.decidedTag tag
  queues : ∀ v, QueueWithin (t.queue v) (s.queue v)

/-- The slots in use are read queue by queue (R90). -/
theorem State.slotsInUse_le {s t : State} (h : ∀ v, (t.queue v).length ≤ (s.queue v).length) :
    t.sched.slotsInUse ≤ s.sched.slotsInUse := sum_map_le fun v _ => h v

/-- The contributions named, action by action. -/
theorem State.contributionsNamed_iff (s : State) : s.contributionsNamed ↔
    ∀ v, ∀ a ∈ s.queue v, ∀ c ∈ a.contribs, s.decidedTag c.tag := Iff.rfl

namespace StoresShrink

variable {s t u : State}

/-- With the same table and schedule. -/
theorem of_same (ht : t.table = s.table) (hq : t.sched = s.sched) : StoresShrink s t :=
  ⟨.of_table ht, fun tag h => by rwa [State.decidedTag, ht], fun v => by
    rw [State.queue_of_sched hq]
    exact .refl _⟩

/-- Nothing has happened. -/
theorem refl (s : State) : StoresShrink s s := of_same rfl rfl

/-- One thing after the other. -/
theorem trans (h : StoresShrink s t) (g : StoresShrink t u) : StoresShrink s u :=
  ⟨h.toTagsKept.trans g.toTagsKept, fun tag d => g.decided tag (h.decided tag d),
    fun v => (g.queues v).trans (h.queues v)⟩

/-- Then a change of other blocks. -/
theorem after (h : StoresShrink s t) (ht : u.table = t.table) (hq : u.sched = t.sched) : StoresShrink s u :=
  h.trans (of_same ht hq)

/-- A fold of such steps. -/
theorem foldl {α : Type} {op : State → α → State} (each : ∀ t x, StoresShrink t (op t x)) (xs : List α) (s : State) :
    StoresShrink s (xs.foldl op s) :=
  foldl_keeps (P := fun t => StoresShrink s t) (fun t x h => h.trans (each t x)) xs s (refl s)

/-- Outcomes written (R63). -/
theorem writeOutcomes (s : State) (o : TargetOutcome) (cs : List Contribution) :
    StoresShrink s (s.writeOutcomes o cs) :=
  ⟨.writeOutcomes s o cs, fun _ h => State.decidedTag_writeOutcomes o cs h, fun v => by
    rw [State.queue_writeOutcomes]
    exact .refl _⟩

/-- A queue that loses contributions. -/
theorem putQueue {s : State} {v : Fin 16} {q : List Action} (h : QueueWithin q (s.queue v)) :
    StoresShrink s (s.putQueue v q) :=
  ⟨.of_table rfl, fun _ d => d, fun w => by
    rw [State.queue_putQueue]
    split
    · rename_i e
      exact e ▸ h
    · exact .refl _⟩

/-- The stores stay well. -/
theorem storesWf (h : StoresShrink s t) (hs : s.storesWf) : t.storesWf := by
  obtain ⟨table, ⟨slots, actions⟩, named⟩ := hs
  refine ⟨h.toTagsKept.wf table, ⟨Nat.le_trans (State.slotsInUse_le fun v => (h.queues v).few) slots, fun v a ha => ?_⟩,
    fun v a ha c hc => ?_⟩
  · obtain ⟨b, hb, w⟩ := (h.queues v).actions a ha
    exact w.wf (actions v b hb)
  · obtain ⟨b, hb, w⟩ := (h.queues v).actions a ha
    obtain ⟨d, hd, e⟩ := w.tags c hc
    exact e ▸ h.decided d.tag (named v b hb d hd)

end StoresShrink

/-- A release of a valve. -/
theorem storesShrink_releaseValve (s : State) (v : Fin 16) : StoresShrink s (s.releaseValve v) :=
  .of_same (by simp) (by simp)

/-- An opening of a valve. -/
theorem storesShrink_startOpening (s : State) (v : Fin 16) : StoresShrink s (s.startOpening v) :=
  .of_same (by simp) (by simp)

/-- The examination of a queue empties it bit by bit (R104 to R106). -/
theorem storesShrink_examineQueue (p : Pos) (v : Fin 16) : ∀ (q : List Action) (s : State),
    QueueWithin q (s.queue v) → StoresShrink s (State.examineQueue p v q s)
  | [], s, h => by
    rw [State.examineQueue]
    exact .putQueue h
  | a :: as, s, h => by
    have rest := (QueueWithin.tail a as).trans h
    rw [State.examineQueue]
    split
    · split
      · refine StoresShrink.trans ?_ (storesShrink_examineQueue p v as _ ?_)
        · exact (StoresShrink.writeOutcomes s _ _).trans (storesShrink_releaseValve _ v)
        · rwa [State.queue_of_sched (t := s) (by simp)]
      · rename_i carries
        refine ((StoresShrink.writeOutcomes s _ _).trans (.writeOutcomes _ _ _)).trans (.putQueue ?_)
        simp only [State.queue_writeOutcomes]
        exact (QueueWithin.head (a.carried_within p _ (by simpa using carries)) as).trans h
    · split
      · exact .putQueue h
      split
      · refine (StoresShrink.writeOutcomes s _ _).trans (storesShrink_examineQueue p v as _ ?_)
        rwa [State.queue_writeOutcomes]
      · rename_i opens
        simp only [Bool.or_eq_true, not_or, Bool.not_eq_true] at opens
        refine StoresShrink.trans ?_ (storesShrink_startOpening _ v)
        refine ((StoresShrink.writeOutcomes s _ _).trans (.writeOutcomes _ _ _)).trans (.putQueue ?_)
        simp only [State.queue_writeOutcomes]
        exact (QueueWithin.head (a.carried_within p _ opens.1) as).trans h

/-- A cut (R107). -/
theorem storesShrink_cutOpenAction (s : State) (v : Fin 16) : StoresShrink s (s.cutOpenAction v) :=
  (StoresShrink.putQueue (.of_sublist List.filter_sublist)).trans (.writeOutcomes _ _ _)

/-- A purge (R111). -/
theorem storesShrink_purgeQueue (s : State) (v : Fin 16) : StoresShrink s (s.purgeQueue v) :=
  ((StoresShrink.putQueue (.nil _)).trans (.writeOutcomes _ _ _)).trans (.writeOutcomes _ _ _)

/-- A cancel (R109). -/
theorem storesShrink_cancelRemoval (s : State) (tag : Nat) : StoresShrink s (s.cancelRemoval tag) :=
  .foldl (fun _ _ => (StoresShrink.putQueue (cancelInQueue_within tag _)).trans (.writeOutcomes _ _ _)) allValves s

/-- A retirement, up to the removal of its record (R110). -/
theorem storesShrink_retireRemoval (s : State) (tag : Nat) : StoresShrink s (s.retireRemoval tag) :=
  .foldl (fun _ _ => (StoresShrink.putQueue (retireInQueue_within tag _).1).trans (.writeOutcomes _ _ _)) allValves s

/-- A motion cut (R129). -/
theorem storesShrink_motionCut (s : State) (v : Fin 16) : StoresShrink s (s.motionCut v) := by
  unfold State.motionCut
  split
  · exact (storesShrink_releaseValve s v).trans (storesShrink_cutOpenAction _ v)
  · exact .refl s

/-- A rail cut (R130). -/
theorem storesShrink_railCut (s : State) (v : Fin 16) : StoresShrink s (s.railCut v) := by
  unfold State.railCut
  split
  · exact (storesShrink_releaseValve s v).trans (storesShrink_cutOpenAction _ v)
  · exact .refl s

/-- An overtime (R126). -/
theorem storesShrink_overtimeOf (s : State) (v : Fin 16) : StoresShrink s (s.overtimeOf v) := by
  unfold State.overtimeOf
  split
  · have purged := fun x => (StoresShrink.of_same (t := s.putValve v x) (s := s) rfl rfl).trans (storesShrink_purgeQueue _ v)
    exact (purged { (s.valve v).disable with active := (s.valve v).cfg.maxOpen * 1000 }).after (by simp) (by simp)
  · exact .refl s

end Sys2Proof.Machine
end

section
/-! PROOFS. The stores take new records and new contributions and stay well (R41, R52, R60, R95 to R99). -/

namespace Sys2Proof.Machine

/-! ### Joining (R95 to R99) -/

/-- The group a joining makes holds the contributions of the actions it gathers, and the new one (R95). -/
theorem contribs_foldl_merge : ∀ (as : List Action) (a : Action),
    (as.foldl Action.merge a).contribs.Perm (a.contribs ++ as.flatMap Action.contribs)
  | [], a => by simp
  | b :: as, a => by
    rw [List.foldl_cons, List.flatMap_cons, ← List.append_assoc]
    exact (contribs_foldl_merge as (a.merge b)).trans ((Action.contribs_merge a b).append_right _)

/-- The action that gathers a contribution with the actions it touches (R95, R99). -/
def joinGroup (gap : Nat) (c : Contribution) (q : List Action) : Action :=
  match q.filter (touches gap c) with
  | [] => Action.ofContribution c
  | a :: as => (as.foldl Action.merge a).merge (.ofContribution c)

/-- It holds what those actions hold, and the new contribution (R95). -/
theorem contribs_joinGroup (gap : Nat) (c : Contribution) (q : List Action) :
    (joinGroup gap c q).contribs.Perm (c :: (q.filter (touches gap c)).flatMap Action.contribs) := by
  unfold joinGroup
  split
  · rename_i h
    rw [h]
    exact .refl _
  · rename_i a as h
    rw [h, List.flatMap_cons]
    refine (Action.contribs_merge _ _).trans ?_
    refine ((contribs_foldl_merge as a).append_right [c]).trans ?_
    exact List.perm_append_singleton _ _

/-- A joining leaves the actions not touched and puts the group in its place (R93, R95, R96). -/
theorem joinOne_eq (gap : Nat) (c : Contribution) (q q' : List Action) : joinOne gap c q = some q' ↔
    opensTooEarly c q = false ∧ (joinGroup gap c q).contribs.length ≤ 4 ∧
      q' = insertAction (joinGroup gap c q) (q.filter (fun a => !touches gap c a)) := by
  have gathered : joinOne gap c q = if opensTooEarly c q = true ∨ (joinGroup gap c q).contribs.length > Config.maxContributions
      then none else some (insertAction (joinGroup gap c q) (q.filter (fun a => !touches gap c a))) := rfl
  rw [gathered]
  have four : Config.maxContributions = 4 := rfl
  split
  · rename_i h
    simp only [reduceCtorEq, false_iff, not_and]
    intro early few
    rcases h with h | h
    · simp [early] at h
    · omega
  · rename_i h
    simp only [not_or, Bool.not_eq_true, Nat.not_lt] at h
    constructor
    · intro e
      cases e
      exact ⟨h.1, h.2, rfl⟩
    · rintro ⟨_, _, rfl⟩
      rfl

/-- Every action a joining leaves is one of the queue, or the group (R93). -/
theorem mem_joinOne {gap : Nat} {c : Contribution} {q q' : List Action} (h : joinOne gap c q = some q') {a : Action}
    (ha : a ∈ q') : a ∈ q ∨ a = joinGroup gap c q := by
  obtain ⟨_, _, rfl⟩ := (joinOne_eq gap c q q').mp h
  rcases List.mem_cons.mp ((insertAction_perm _ _).mem_iff.mp ha) with rfl | ha
  · exact .inr rfl
  · exact .inl ((List.mem_filter.mp ha).1)

/-- A joining keeps the actions good (R91). -/
theorem wf_joinOne {gap : Nat} {c : Contribution} {q q' : List Action} (h : joinOne gap c q = some q')
    (hq : ∀ a ∈ q, a.wf) : ∀ a ∈ q', a.wf := fun a ha => by
  rcases mem_joinOne h ha with old | rfl
  · exact hq a old
  · obtain ⟨_, four, _⟩ := (joinOne_eq gap c q q').mp h
    have one := (contribs_joinGroup gap c q).length_eq
    rw [List.length_cons] at one
    exact ⟨by omega, four⟩

/-- A joining brings the new contribution alone (R95). -/
theorem contribs_joinOne {gap : Nat} {c : Contribution} {q q' : List Action} (h : joinOne gap c q = some q')
    {a : Action} (ha : a ∈ q') {k : Contribution} (hk : k ∈ a.contribs) : k = c ∨ ∃ b ∈ q, k ∈ b.contribs := by
  rcases mem_joinOne h ha with old | rfl
  · exact .inr ⟨a, old, hk⟩
  · rcases List.mem_cons.mp ((contribs_joinGroup gap c q).mem_iff.mp hk) with rfl | hk
    · exact .inl rfl
    · obtain ⟨b, hb, hk⟩ := List.mem_flatMap.mp hk
      exact .inr ⟨b, (List.mem_filter.mp hb).1, hk⟩

/-- One queue after a joining of one contribution. -/
theorem Schedule.getElem_set_queues (c : Schedule) (v w : Fin 16) (q : List Action) :
    ({ c with queues := c.queues.set v q } : Schedule).queues[w] = if v = w then q else c.queues[w] := by
  by_cases h : v = w
  · subst h; simp
  · have h' : v.val ≠ w.val := fun e => h (Fin.ext e)
    simp [h, h']

/-- A joining of several contributions keeps the actions good, and brings theirs alone (R91, R95). -/
theorem Schedule.join_keeps {gap : Fin 16 → Nat} : ∀ {rs : List Request} {c c' : Schedule}, c.join gap rs = some c' →
    (∀ v : Fin 16, ∀ a ∈ c.queues[v], a.wf) →
    (∀ v : Fin 16, ∀ a ∈ c'.queues[v], a.wf) ∧ ∀ v : Fin 16, ∀ a ∈ c'.queues[v], ∀ k ∈ a.contribs,
      (∃ r ∈ rs, k = r.contribution) ∨ ∃ b ∈ c.queues[v], k ∈ b.contribs
  | [], c, c', h, hc => by
    cases h
    exact ⟨hc, fun v a ha k hk => .inr ⟨a, ha, hk⟩⟩
  | r :: rs, c, c', h, hc => by
    unfold Schedule.join at h
    split at h
    · cases h
    · rename_i q hq
      have one := wf_joinOne hq (hc r.valve)
      obtain ⟨good, from'⟩ := Schedule.join_keeps h (fun v a ha => by
        rw [Schedule.getElem_set_queues] at ha
        split at ha
        · exact one a ha
        · exact hc v a ha)
      refine ⟨good, fun v a ha k hk => ?_⟩
      rcases from' v a ha k hk with ⟨r', hr', rfl⟩ | ⟨b, hb, hk⟩
      · exact .inl ⟨r', List.mem_cons_of_mem _ hr', rfl⟩
      rw [Schedule.getElem_set_queues] at hb
      split at hb
      · rename_i e
        rcases contribs_joinOne hq hb hk with rfl | ⟨b', hb', hk⟩
        · exact .inl ⟨r, List.mem_cons_self, rfl⟩
        · exact .inr ⟨b', e ▸ hb', hk⟩
      · exact .inr ⟨b, hb, hk⟩

/-- An admission keeps the schedule well, and brings contributions of its tag alone (R90, R91, R98). -/
theorem State.admission_keeps {s : State} {tag : Nat} {ps : List Placed} {placed : Schedule} (hs : s.sched.wf)
    (h : s.admission tag ps = .admitted placed) : placed.wf ∧
    ∀ v : Fin 16, ∀ a ∈ placed.queues[v], ∀ k ∈ a.contribs, k.tag = tag ∨ ∃ b ∈ s.queue v, k ∈ b.contribs := by
  obtain ⟨joined, fits⟩ := Schedule.takeAll_admitted h
  obtain ⟨good, from'⟩ := Schedule.join_keeps joined hs.2
  refine ⟨⟨fits, good⟩, fun v a ha k hk => ?_⟩
  rcases from' v a ha k hk with ⟨r, hr, rfl⟩ | old
  · obtain ⟨⟨p, i⟩, _, rfl⟩ := List.mem_map.mp hr
    exact .inl rfl
  · exact .inr old

/-! ### Records that change (R53, R55, R60, R62) -/

/-- The tags and the counter stay, the schedule is as it was, and the record of one tag becomes decided. -/
theorem State.storesWf_decide {s : State} {tag : Nat} {f : ItemRecord → ItemRecord} (hs : s.storesWf)
    (hf : ∀ r, (f r).tag = r.tag ∧ (f r).isDecided = true) : (s.updateRecord tag f).storesWf := by
  obtain ⟨table, sched, named⟩ := hs
  refine ⟨(TagsKept.updateRecord s tag fun r _ e => (hf r).1.trans e).wf table, sched, fun v a ha c hc => ?_⟩
  exact State.decidedTag_updateRecord (fun _ r _ e => ⟨(hf r).1.trans e, (hf r).2⟩) (named v a ha c hc)

/-- The record of a tag is decided with contributions of its tag admitted (R60, R80). -/
theorem State.storesWf_admission {s : State} {tag : Nat} {ps : List Placed} {placed : Schedule} {f : ItemRecord → ItemRecord}
    (hs : s.storesWf) (ha : s.admission tag ps = .admitted placed) (hr : ∃ r ∈ s.table.records, r.tag = tag)
    (hf : ∀ r, (f r).tag = r.tag ∧ (f r).isDecided = true) :
    (State.updateRecord { s with sched := placed } tag f).storesWf := by
  obtain ⟨table, sched, named⟩ := hs
  obtain ⟨good, from'⟩ := State.admission_keeps sched ha
  obtain ⟨r, hr, e⟩ := hr
  refine ⟨(TagsKept.updateRecord { s with sched := placed } tag fun r _ e => (hf r).1.trans e).wf table, good,
    fun v a ha c hc => ?_⟩
  rcases from' v a ha c hc with mine | ⟨b, hb, hc⟩
  · exact ⟨f r, List.mem_map.mpr ⟨r, hr, if_pos e⟩, ((hf r).1.trans e).trans mine.symm, (hf r).2⟩
  · exact State.decidedTag_updateRecord (s := { s with sched := placed })
      (fun _ r _ e => ⟨(hf r).1.trans e, (hf r).2⟩) (named v b hb c hc)

/-- What leaves table and schedule keeps them well. -/
theorem State.storesWf_told {s t : State} (hs : s.storesWf) (ht : t.table = s.table) (hq : t.sched = s.sched) :
    t.storesWf := (StoresShrink.of_same ht hq).storesWf hs

/-- An offer leaves the stores. -/
theorem State.storesWf_offer {s : State} (n : Notice) (hs : s.storesWf) : (s.offer n).storesWf :=
  State.storesWf_told hs (by simp) (by simp)

/-- An occurrence leaves the stores. -/
theorem State.storesWf_occur {s : State} (f : FaultFlag) (hs : s.storesWf) : (s.occur f).storesWf :=
  State.storesWf_told hs (by simp) (by simp)

/-- No decided record carries the tag of a record that is not decided (R50). -/
theorem State.not_decidedTag {s : State} {tag : Nat} {r : ItemRecord} (hs : s.table.wf) (h : s.record? tag = some r)
    (hr : r.isDecided = false) : ¬ s.decidedTag tag := by
  rintro ⟨r', hm, ht, hd⟩
  rw [State.eq_of_record? hs h hm ht, hr] at hd
  cases hd

/-- A record that is not decided can be closed: no contribution names it (R53). -/
theorem State.storesWf_undecided {s : State} {tag : Nat} {r : ItemRecord} {f : ItemRecord → ItemRecord}
    (hs : s.storesWf) (h : s.record? tag = some r) (hr : r.isDecided = false)
    (hf : ∀ r ∈ s.table.records, r.tag = tag → (f r).tag = tag) : (s.updateRecord tag f).storesWf := by
  have free := State.not_decidedTag hs.1 h hr
  obtain ⟨table, sched, named⟩ := hs
  refine ⟨(TagsKept.updateRecord s tag hf).wf table, sched, fun v a ha c hc => ?_⟩
  have d := named v a ha c hc
  exact State.decidedTag_updateRecord (fun e => absurd (e ▸ d) free) d

/-- A record whose tag no contribution names can leave the table (R49). -/
theorem State.storesWf_removeRecord {s : State} {tag : Nat} (hs : s.storesWf)
    (free : ∀ v, ∀ a ∈ s.queue v, ∀ c ∈ a.contribs, c.tag ≠ tag) : (s.removeRecord tag).storesWf := by
  obtain ⟨table, sched, named⟩ := hs
  exact ⟨(TagsKept.removeRecord s tag).wf table, sched, fun v a ha c hc =>
    State.decidedTag_removeRecord (free v a ha c hc) (named v a ha c hc)⟩

/-- A discard keeps the stores well: an ENTERING record has no contributions (R55). -/
theorem State.storesWf_discard {s : State} (tag : Nat) (why : DiscardReason) (hs : s.storesWf) :
    (s.discard tag why).storesWf := by
  unfold State.discard
  split
  · rename_i r hr
    split
    · rename_i entering
      refine State.storesWf_offer _ (State.storesWf_removeRecord hs fun v a ha c hc e => ?_)
      refine State.not_decidedTag hs.1 hr ?_ (e ▸ hs.2.2 v a ha c hc)
      simp [ItemRecord.isDecided, entering]
    all_goals exact hs
  · exact hs

/-- A lane default keeps the stores well (R60, R61). -/
theorem State.storesWf_applyDefault {s : State} {r : ItemRecord} (c : Closing)
    (hr : ∃ r' ∈ s.table.records, r'.tag = r.tag) (hs : s.storesWf) : (s.applyDefault r c).storesWf := by
  have set : ∀ ps o, (s.setDefaulted r.tag c ps o).storesWf := fun ps o =>
    State.storesWf_decide hs fun r => ⟨rfl, rfl⟩
  have failed : ∀ ps full, (s.defaultFailed r.tag c ps full).storesWf := fun ps full => by
    unfold State.defaultFailed
    dsimp only
    split
    · exact State.storesWf_offer _ (State.storesWf_occur _ (set ps .notScheduled))
    · exact State.storesWf_offer _ (set ps .notScheduled)
  unfold State.applyDefault
  dsimp only
  split
  · exact State.storesWf_offer _ (set [] .pending)
  split
  · split
    · rename_i placed admitted
      exact State.storesWf_offer _ (State.storesWf_admission hs admitted hr fun r => ⟨rfl, rfl⟩)
    · exact failed _ _
    · exact failed _ _
  · exact failed _ _

/-- A closing keeps the stores well (R53, R54). -/
theorem State.storesWf_closeItem {s : State} (tag : Nat) (p : Pos) (n m : Nat) (b e : Bool) (hs : s.storesWf) :
    (s.closeItem tag p n m b e).storesWf := by
  unfold State.closeItem
  split
  · rename_i r hr
    split
    · rename_i entering
      have tagged : ∀ c, (r.closed c b e).tag = tag := fun _ => (State.tag_of_record? hr : r.tag = tag)
      have closed : ∀ c k, ((s.updateRecord tag (fun _ => r.closed c b e)).offer k).storesWf := fun c k =>
        State.storesWf_offer k (State.storesWf_undecided hs hr (by simp [ItemRecord.isDecided, entering])
          fun _ _ _ => tagged c)
      dsimp only
      split
      · refine State.storesWf_applyDefault _ ⟨r.closed _ b e, ?_, rfl⟩ (closed _ _)
        rw [State.table_offer]
        exact List.mem_map.mpr ⟨r, State.mem_of_record? hr, if_pos (State.tag_of_record? hr)⟩
      · exact closed _ _
    all_goals exact hs
  · exact hs

/-- A retirement keeps the stores well: the tag's contributions leave with the record (R62, R110). -/
theorem State.storesWf_retire {s : State} (tag : Nat) (hs : s.storesWf) : (s.retire tag).storesWf := by
  have removed := (storesShrink_retireRemoval s tag).storesWf hs
  unfold State.retire
  dsimp only
  split
  · refine State.storesWf_offer _ (State.storesWf_removeRecord removed fun v a ha => ?_)
    rw [State.queue_retireRemoval] at ha
    exact (retireInQueue_within tag _).2 a ha
  · exact removed

/-- The check of a record keeps the stores well (R56). -/
theorem State.storesWf_checkRecord {s : State} (p : Pos) (tag : Nat) (hs : s.storesWf) :
    (State.checkRecord p s tag).storesWf := by
  unfold State.checkRecord
  split
  · exact hs
  rename_i r hr
  split
  · exact hs
  · split
    · have defaulted := fun c => State.storesWf_applyDefault c ⟨r, State.mem_of_record? hr, rfl⟩ hs
      dsimp only
      split
      · exact State.storesWf_retire tag (defaulted _)
      · exact defaulted _
    · exact hs
  · split
    · exact State.storesWf_retire tag hs
    · exact hs
  · split
    · exact State.storesWf_retire tag hs
    · exact hs

/-- A new record keeps the stores well (R50, R52). -/
theorem State.storesWf_addRecord {s : State} (i : NewItem) (room : s.table.records.length < 64) (hs : s.storesWf) :
    (s.addRecord i).storesWf := by
  obtain ⟨table, sched, named⟩ := hs
  have free := (tagToUse_first table).1
  have range := tagToUse_range table
  obtain ⟨few, distinct, within, _⟩ := table
  refine ⟨⟨?_, ?_, ?_, succTag_range range.1⟩, sched, fun v a ha c hc => ?_⟩
  · simp only [State.addRecord, List.length_append, List.length_singleton]
    omega
  · simp only [State.addRecord, List.map_append, List.map_cons, List.map_nil]
    exact List.nodup_append.mpr ⟨distinct, by simp, fun x hx y hy e => free (by
      rw [List.mem_singleton.mp hy] at e
      have tagged : x = s.table.tagToUse := e
      exact tagged ▸ hx)⟩
  · intro r hr
    rcases List.mem_append.mp hr with old | new
    · exact within r old
    · rw [List.mem_singleton.mp new]
      exact range
  · obtain ⟨r, hr, d⟩ := named v a ha c hc
    exact ⟨r, List.mem_append_left _ hr, d⟩

/-! ### The invariant of the stores -/

/-- Stores that are empty are well. -/
theorem State.storesWf_empty {s : State} (hr : s.table.records = []) (hq : ∀ v, s.queue v = [])
    (hn : 1 ≤ s.table.nextTag ∧ s.table.nextTag ≤ 65535) : s.storesWf := by
  refine ⟨⟨by simp [hr], by simp [hr], by simp [hr], hn⟩, ⟨?_, fun v a ha => ?_⟩, fun v a ha => ?_⟩
  · have none : s.sched.slotsInUse = 0 := sum_map_zero fun v _ =>
      List.length_eq_zero_iff.mpr (hq v)
    omega
  · rw [show s.sched.queues[v] = [] from hq v] at ha
    cases ha
  · rw [hq v] at ha
    cases ha

/-- A line that has left ARMED has its stores empty (R64, R112). -/
theorem State.storesWf_leaveArmed {s : State} (hs : s.storesWf) : s.leaveArmed.storesWf := by
  have left := s.leftArmed
  obtain ⟨⟨_, _, _, range⟩, _, _⟩ := hs
  refine State.storesWf_empty (by rw [left.table]) (fun v => (left.queues v).1) ?_
  rw [left.table]
  exact range

/-- What changes neither lanes nor table nor schedule. -/
theorem State.storesWf_putLaneState {s : State} (l : Fin 8) (x : LaneState) (hs : s.storesWf) :
    (s.putLaneState l x).storesWf := hs

/-- A confirmed edge keeps the stores well (R37, R41 to R43). -/
theorem State.storesWf_confirmEdge {s : State} (l : Fin 8) (c : Candidate) (hs : s.storesWf) :
    (s.confirmEdge l c).storesWf := by
  have confirmed : (s.putLane l { s.lane l with confirmed := c.level, candidate := none }).storesWf := hs
  unfold State.confirmEdge
  dsimp only
  split
  · exact confirmed
  · split
    · split
      · exact confirmed
      · unfold State.askRecord
        split
        · rename_i room
          exact State.storesWf_addRecord _ room confirmed
        · exact State.storesWf_occur _ confirmed
    · exact confirmed
  · split
    · exact confirmed
    · unfold State.closeByEdge
      dsimp only
      split
      · exact State.storesWf_closeItem _ _ _ _ _ _ confirmed
      · exact State.storesWf_discard _ _ confirmed
  · split <;> exact confirmed

/-- A SET_LANE keeps the stores well (R31). -/
theorem State.storesWf_applyLane {s : State} (l : Fin 8) (q : LaneParams) (hs : s.storesWf) :
    (s.applyLane l q).storesWf := by
  have given : (s.putLane l { s.lane l with cfg := q }).storesWf := hs
  have abandoned : ∀ t : State, t.storesWf → (t.abandonByLane l).storesWf := fun t ht => by
    unfold State.abandonByLane
    split
    · exact State.storesWf_discard _ _ ht
    · exact ht
  unfold State.applyLane
  dsimp only
  split
  · exact abandoned _ given
  split
  · split <;> exact given
  split
  · exact abandoned _ given
  · exact given

/-- A fall of the rail (R130). -/
theorem State.storesShrink_railFalls (s : State) : StoresShrink s s.railFalls := by
  have cut := StoresShrink.foldl storesShrink_railCut allValves
    ({ s with rail := ⟨.low, 0⟩, drive := { s.drive with rail := .low } } : State)
  have low : StoresShrink s { s with rail := ⟨.low, 0⟩, drive := { s.drive with rail := .low } } := .of_same rfl rfl
  unfold State.railFalls
  dsimp only
  exact (low.trans cut).after (by simp) (by simp)

/-- Every operation keeps the stores well. -/
theorem keptByOperations_storesWf : KeptByOperations State.storesWf where
  ofStores s t st hs := StoresShrink.storesWf ⟨⟨st.records ▸ .refl _, st.nextTag⟩, fun tag d => by
    rwa [State.decidedTag, st.records], fun v => by
    rw [st.queue]
    exact .refl _⟩ hs
  closeByLength u s l hs := by
    unfold State.closeByLength
    split
    · exact State.storesWf_occur _ (State.storesWf_closeItem _ _ _ _ _ _ hs)
    · exact hs
  checkRecord p s tag hs := State.storesWf_checkRecord p tag hs
  examineValve p s v hs := (storesShrink_examineQueue p v _ s (.refl _)).storesWf hs
  abandonByReversal s l hs := by
    unfold State.abandonByReversal
    split
    · exact State.storesWf_discard _ _ hs
    · exact hs
  motionCut s v hs := (storesShrink_motionCut s v).storesWf hs
  halt s why hs := by
    unfold State.halt
    split
    · exact State.storesWf_offer _ (State.storesWf_occur _ (State.storesWf_leaveArmed hs))
    · exact hs
  restartValve s v hs := State.storesWf_told hs (by simp) (by simp)
  lane s l q hs := State.storesWf_applyLane l q hs
  valve s v q _ _ hs := hs
  hold s v d hs := hs
  test s v d _ _ _ _ _ hs := State.storesWf_told hs (by simp) (by simp)
  enable s v hs := State.storesWf_told hs (by simp) (by simp)
  disable s v hs := by
    unfold State.disableValve
    split
    · exact hs
    · exact (storesShrink_purgeQueue (s.putValve v (s.valve v).disable) v).storesWf hs
  arm s _ hs := State.storesWf_told hs (by simp) (by simp)
  disarm s hs := State.storesWf_offer _ (State.storesWf_leaveArmed (s := s.putLine .config) hs)
  verdict s r c ps placed _ hr _ _ ha hs := State.storesWf_admission hs ha
    ⟨r, State.mem_of_record? hr, rfl⟩ fun _ => ⟨rfl, rfl⟩
  pass s r c _ _ _ hs := State.storesWf_decide hs fun _ => ⟨rfl, rfl⟩
  cancel s tag _ hs := (storesShrink_cancelRemoval s tag).storesWf hs
  reset s cause settings := State.storesWf_empty rfl (fun v => by simp [State.queue, State.resetPart, Schedule.reset])
    ⟨Nat.le_refl 1, (by decide : 1 ≤ 65535)⟩
  tickValve s v hs := hs
  filter s l raw candidate hs := hs
  confirmEdge s l c hs := State.storesWf_confirmEdge l c hs
  pullIn s v hs := State.storesWf_told hs (by simp) (by simp)
  overtime s v hs := (storesShrink_overtimeOf s v).storesWf hs
  testEnd s v hs := State.storesWf_told hs (by simp) (by simp)
  lastMicro s v hs := by
    have counted : (s.putValve v { s.valve v with active := (s.valve v).active + 1 }).storesWf := hs
    unfold State.lastMicro
    dsimp only
    split
    · split
      · exact (storesShrink_overtimeOf _ v).storesWf counted
      · exact State.storesWf_told counted (by simp) (by simp)
    · exact counted
  period s v hs := State.storesWf_told hs (by simp) (by simp)
  onTime s v hs := State.storesWf_told hs (by simp) (by simp)
  railFalls s hs := s.storesShrink_railFalls.storesWf hs
  railRises s hs := State.storesWf_told hs (by simp) (by simp)

/-- Settles O55: the stores and the link's queues, each kept by every operation. -/
theorem everyStepKeepsTheStores : Obligations.EveryStepKeepsTheStores := by
  intro s t hs hl ht
  exact ⟨keptByOperations_storesWf.events.step hs ht, keptByOperations_linkWf.events.step hl ht⟩

end Sys2Proof.Machine
end

section
/-! PROOFS. Between events every receiver holds what the Belt Position Unit last handed (R12, R17, R26, R124). -/

namespace Sys2Proof.Machine

/-! ### What the receivers hold -/

/-- The receivers hold the same position, motion, source and PWM period. -/
structure HandedSame (s t : State) : Prop where
  lanes : t.lanes.position = s.lanes.position ∧ t.lanes.motion = s.lanes.motion ∧ t.lanes.source = s.lanes.source
  table : (t.table.position, t.table.motion) = (s.table.position, s.table.motion)
  sched : (t.sched.position, t.sched.motion) = (s.sched.position, s.sched.motion)
  drive : t.drive.motion = s.drive.motion ∧ t.drive.period = s.drive.period
  ctrl : t.ctrl.motion = s.ctrl.motion

namespace HandedSame

variable {s t u : State}

/-- Nothing has happened. -/
theorem refl (s : State) : HandedSame s s := ⟨⟨rfl, rfl, rfl⟩, rfl, rfl, ⟨rfl, rfl⟩, rfl⟩

/-- One thing after the other. -/
theorem trans (h : HandedSame s t) (g : HandedSame t u) : HandedSame s u := by
  obtain ⟨⟨l1, l2, l3⟩, ht, hs, ⟨d1, d2⟩, hc⟩ := h
  obtain ⟨⟨m1, m2, m3⟩, gt, gs, ⟨e1, e2⟩, gc⟩ := g
  exact ⟨⟨m1.trans l1, m2.trans l2, m3.trans l3⟩, gt.trans ht, gs.trans hs, ⟨e1.trans d1, e2.trans d2⟩, gc.trans hc⟩

/-- A fold of such steps. -/
theorem foldl {α : Type} {op : State → α → State} (each : ∀ t x, HandedSame t (op t x)) (xs : List α) (s : State) :
    HandedSame s (xs.foldl op s) :=
  foldl_keeps (P := fun t => HandedSame s t) (fun t x h => h.trans (each t x)) xs s (refl s)

/-- An offer. -/
theorem offer (h : HandedSame s t) (n : Notice) : HandedSame s (t.offer n) :=
  h.trans ⟨by simp, by simp, by simp, by simp, by simp⟩

/-- An occurrence of a flag. -/
theorem occur (h : HandedSame s t) (f : FaultFlag) : HandedSame s (t.occur f) :=
  h.trans ⟨by simp, by simp, by simp, by simp, by simp⟩

/-- A lane write. -/
theorem putLane (h : HandedSame s t) (l : Fin 8) (x : Lane) : HandedSame s (t.putLane l x) :=
  h.trans ⟨⟨rfl, rfl, rfl⟩, rfl, rfl, ⟨rfl, rfl⟩, rfl⟩

/-- Outcomes written. -/
theorem writeOutcomes (h : HandedSame s t) (o : TargetOutcome) (cs : List Contribution) :
    HandedSame s (t.writeOutcomes o cs) := h.trans ⟨by simp, by simp, by simp, by simp, by simp⟩

/-- A queue written. -/
theorem putQueue (h : HandedSame s t) (v : Fin 16) (q : List Action) : HandedSame s (t.putQueue v q) :=
  h.trans ⟨⟨rfl, rfl, rfl⟩, rfl, rfl, ⟨rfl, rfl⟩, rfl⟩

/-- The records written. -/
theorem removeRecord (h : HandedSame s t) (tag : Nat) : HandedSame s (t.removeRecord tag) :=
  h.trans ⟨⟨rfl, rfl, rfl⟩, rfl, rfl, ⟨rfl, rfl⟩, rfl⟩

/-- Valves written. -/
theorem valves (h : HandedSame s t) (hl : u.lanes = t.lanes) (ht : u.table = t.table) (hs : u.sched = t.sched)
    (hd : u.drive.motion = t.drive.motion ∧ u.drive.period = t.drive.period) (hc : u.ctrl = t.ctrl) : HandedSame s u :=
  h.trans ⟨by simp [hl], by rw [ht], by rw [hs], hd, by rw [hc]⟩

end HandedSame

/-! ### Items -/

/-- A joining leaves the position and the motion the Action Schedule holds. -/
theorem Schedule.held_join {gap : Fin 16 → Nat} : ∀ {rs : List Request} {c c' : Schedule},
    c.join gap rs = some c' → (c'.position, c'.motion) = (c.position, c.motion)
  | [], _, _, h => by
    cases h
    rfl
  | r :: rs, c, c', h => by
    unfold Schedule.join at h
    split at h
    · cases h
    · exact (Schedule.held_join h).trans rfl

/-- So does an admission. -/
theorem State.held_admission {s : State} {tag : Nat} {ps : List Placed} {placed : Schedule}
    (h : s.admission tag ps = .admitted placed) : (placed.position, placed.motion) = (s.sched.position, s.sched.motion) :=
  Schedule.held_join (Schedule.takeAll_admitted h).1

/-- A discard hands nothing. -/
theorem handedSame_discard (s : State) (tag : Nat) (why : DiscardReason) : HandedSame s (s.discard tag why) := by
  have removed : HandedSame s (s.removeRecord tag) := ⟨⟨rfl, rfl, rfl⟩, rfl, rfl, ⟨rfl, rfl⟩, rfl⟩
  unfold State.discard
  split
  · split
    · exact removed.offer _
    all_goals exact .refl s
  · exact .refl s

/-- A lane default hands nothing. -/
theorem handedSame_applyDefault (s : State) (r : ItemRecord) (c : Closing) : HandedSame s (s.applyDefault r c) := by
  have failed : ∀ ps full, HandedSame s (s.defaultFailed r.tag c ps full) := fun ps full => by
    have set : HandedSame s (s.setDefaulted r.tag c ps .notScheduled) := ⟨⟨rfl, rfl, rfl⟩, rfl, rfl, ⟨rfl, rfl⟩, rfl⟩
    unfold State.defaultFailed
    dsimp only
    split
    · exact (set.occur _).offer _
    · exact set.offer _
  have none : HandedSame s (s.setDefaulted r.tag c [] .pending) := ⟨⟨rfl, rfl, rfl⟩, rfl, rfl, ⟨rfl, rfl⟩, rfl⟩
  unfold State.applyDefault
  dsimp only
  split
  · exact none.offer _
  split
  · split
    · rename_i placed admitted
      have set : ∀ ps, HandedSame s (State.setDefaulted { s with sched := placed } r.tag c ps .pending) := fun ps =>
        ⟨⟨rfl, rfl, rfl⟩, rfl, State.held_admission admitted, ⟨rfl, rfl⟩, rfl⟩
      exact (set _).offer _
    · exact failed _ _
    · exact failed _ _
  · exact failed _ _

/-- A closing hands nothing. -/
theorem handedSame_closeItem (s : State) (tag : Nat) (p : Pos) (n m : Nat) (b e : Bool) :
    HandedSame s (s.closeItem tag p n m b e) := by
  unfold State.closeItem
  split
  · split
    · rename_i r _ _ _
      have closed : HandedSame s (s.updateRecord tag (fun _ => r.closed ⟨p, n, addOffset p m⟩ b e)) :=
        ⟨⟨rfl, rfl, rfl⟩, rfl, rfl, ⟨rfl, rfl⟩, rfl⟩
      dsimp only
      split
      · exact (closed.offer _).trans (handedSame_applyDefault _ _ _)
      · exact closed.offer _
    all_goals exact .refl s
  · exact .refl s

/-- A retirement hands nothing. -/
theorem handedSame_retire (s : State) (tag : Nat) : HandedSame s (s.retire tag) := by
  have removed : HandedSame s (s.retireRemoval tag) := HandedSame.foldl
    (fun t v => ((HandedSame.refl t).putQueue v _).writeOutcomes _ _) allValves s
  unfold State.retire
  dsimp only
  split
  · exact (removed.removeRecord tag).offer _
  · exact removed

/-- The check of a record hands nothing. -/
theorem handedSame_checkRecord (s : State) (p : Pos) (tag : Nat) : HandedSame s (State.checkRecord p s tag) := by
  unfold State.checkRecord
  split
  · exact .refl s
  split
  · exact .refl s
  · split
    · dsimp only
      split
      · exact (handedSame_applyDefault s _ _).trans (handedSame_retire _ _)
      · exact handedSame_applyDefault s _ _
    · exact .refl s
  · split
    · exact handedSame_retire s _
    · exact .refl s
  · split
    · exact handedSame_retire s _
    · exact .refl s

/-! ### Lanes -/

/-- A closing by the max length hands nothing. -/
theorem handedSame_closeByLength (u : Update) (s : State) (l : Fin 8) : HandedSame s (State.closeByLength u s l) := by
  unfold State.closeByLength
  split
  · rename_i o _
    exact ((handedSame_closeItem s o.tag o.maxPoint o.maxLength o.exitOffset true
      (o.estimated || u.source.estimates)).putLane l _).occur _
  · exact .refl s

/-- A reversal hands nothing more. -/
theorem handedSame_abandonByReversal (s : State) (l : Fin 8) : HandedSame s (s.abandonByReversal l) := by
  unfold State.abandonByReversal
  split
  · exact ((HandedSame.refl s).putLane l _).trans (handedSame_discard _ _ _)
  · exact .refl s

/-- A confirmed edge hands nothing. -/
theorem handedSame_confirmEdge (s : State) (l : Fin 8) (c : Candidate) : HandedSame s (s.confirmEdge l c) := by
  have confirmed := (HandedSame.refl s).putLane l { s.lane l with confirmed := c.level, candidate := none }
  unfold State.confirmEdge
  dsimp only
  split
  · exact confirmed
  · split
    · split
      · exact confirmed.putLane l _
      · unfold State.askRecord
        split
        · exact confirmed.trans ⟨⟨rfl, rfl, rfl⟩, rfl, rfl, ⟨rfl, rfl⟩, rfl⟩
        · exact (confirmed.putLane l _).occur _
    · exact confirmed
  · split
    · exact confirmed
    · unfold State.closeByEdge
      dsimp only
      split
      · exact (confirmed.putLane l _).trans (handedSame_closeItem _ _ _ _ _ _ _)
      · exact (confirmed.putLane l _).trans (handedSame_discard _ _ _)
  · split
    · exact confirmed
    · exact confirmed.putLane l _

/-- A SET_LANE hands nothing. -/
theorem handedSame_applyLane (s : State) (l : Fin 8) (q : LaneParams) : HandedSame s (s.applyLane l q) := by
  have given := (HandedSame.refl s).putLane l { s.lane l with cfg := q }
  have abandoned : ∀ t : State, HandedSame t (t.abandonByLane l) := fun t => by
    unfold State.abandonByLane
    split
    · exact handedSame_discard _ _ _
    · exact .refl t
  unfold State.applyLane
  dsimp only
  split
  · exact (given.trans (abandoned _)).putLane l _
  split
  · split
    · exact given.putLane l _
    · exact given
  split
  · exact (given.trans (abandoned _)).putLane l _
  · exact given

/-! ### Valves and the line -/

/-- A released valve hands nothing. -/
theorem handedSame_releaseValve (s : State) (v : Fin 16) : HandedSame s (s.releaseValve v) :=
  (HandedSame.refl s).valves (by simp) (by simp) (by simp) (by simp) (by simp)

/-- An opening hands nothing. -/
theorem handedSame_startOpening (s : State) (v : Fin 16) : HandedSame s (s.startOpening v) :=
  (HandedSame.refl s).valves (by simp) (by simp) (by simp) (by simp) (by simp)

/-- An examination hands nothing. -/
theorem handedSame_examineQueue (p : Pos) (v : Fin 16) : ∀ (q : List Action) (s : State),
    HandedSame s (State.examineQueue p v q s)
  | [], s => by
    rw [State.examineQueue]
    exact (HandedSame.refl s).putQueue v _
  | a :: as, s => by
    rw [State.examineQueue]
    split
    · split
      · exact (((HandedSame.refl s).writeOutcomes _ _).trans (handedSame_releaseValve _ v)).trans
          (handedSame_examineQueue p v as _)
      · exact (((HandedSame.refl s).writeOutcomes _ _).writeOutcomes _ _).putQueue v _
    · split
      · exact (HandedSame.refl s).putQueue v _
      split
      · exact ((HandedSame.refl s).writeOutcomes _ _).trans (handedSame_examineQueue p v as _)
      · exact ((((HandedSame.refl s).writeOutcomes _ _).writeOutcomes _ _).putQueue v _).trans
          (handedSame_startOpening _ v)

/-- A cut hands nothing. -/
theorem handedSame_cutOpenAction (s : State) (v : Fin 16) : HandedSame s (s.cutOpenAction v) :=
  ((HandedSame.refl s).putQueue v _).writeOutcomes _ _

/-- A purge hands nothing. -/
theorem handedSame_purgeQueue (s : State) (v : Fin 16) : HandedSame s (s.purgeQueue v) :=
  (((HandedSame.refl s).putQueue v _).writeOutcomes _ _).writeOutcomes _ _

/-- A motion cut hands nothing. -/
theorem handedSame_motionCut (s : State) (v : Fin 16) : HandedSame s (s.motionCut v) := by
  unfold State.motionCut
  split
  · exact (handedSame_releaseValve s v).trans (handedSame_cutOpenAction _ v)
  · exact .refl s

/-- A fall of the rail hands no motion, position or source. -/
theorem handedSame_railFalls (s : State) : HandedSame s s.railFalls := by
  have cut := HandedSame.foldl (op := State.railCut) (fun t v => by
    unfold State.railCut
    split
    · exact (handedSame_releaseValve t v).trans (handedSame_cutOpenAction _ v)
    · exact .refl t) allValves ({ s with rail := ⟨.low, 0⟩, drive := { s.drive with rail := .low } } : State)
  have low : HandedSame s { s with rail := ⟨.low, 0⟩, drive := { s.drive with rail := .low } } :=
    ⟨⟨rfl, rfl, rfl⟩, rfl, rfl, ⟨rfl, rfl⟩, rfl⟩
  unfold State.railFalls
  dsimp only
  exact ((low.trans cut).occur _).offer _

/-- Leaving ARMED hands nothing. -/
theorem handedSame_leaveArmed (s : State) : HandedSame s s.leaveArmed := by
  have left := s.leftArmed
  obtain ⟨period, _, motion, _⟩ := left.drive
  obtain ⟨position, travel, _⟩ := left.schedule
  exact ⟨left.lanesHanded, by rw [left.table], by rw [position, travel], ⟨motion, period⟩, by simp⟩

/-- A halt hands nothing. -/
theorem handedSame_halt (s : State) (why : HaltCause) : HandedSame s (s.halt why) := by
  have line : HandedSame s (s.putLine (.halted why)) := ⟨⟨rfl, rfl, rfl⟩, rfl, rfl, ⟨rfl, rfl⟩, rfl⟩
  unfold State.halt
  split
  · exact ((line.trans (handedSame_leaveArmed _)).occur _).offer _
  · exact .refl s

/-- An overtime hands nothing. -/
theorem handedSame_overtimeOf (s : State) (v : Fin 16) : HandedSame s (s.overtimeOf v) := by
  have put : ∀ x, HandedSame s (s.putValve v x) := fun x => ⟨⟨rfl, rfl, rfl⟩, rfl, rfl, ⟨rfl, rfl⟩, rfl⟩
  unfold State.overtimeOf
  split
  · exact (((put _).trans (handedSame_purgeQueue _ v)).occur _).offer _
  · exact .refl s

/-! ### What the belt hands -/

/-- What the receivers hold: the positions of Lane Inputs, Tracking Table and Action Schedule, the motions of Lane Inputs,
Valve Drive and Line Controller, the source and the PWM period. -/
structure State.Holds (s : State) (positions : Pos × Pos × Pos) (motions : Motion × Motion × Motion) (source : SourceKind)
    (period : Nat) : Prop where
  positions : (s.lanes.position, s.table.position, s.sched.position) = positions
  motions : (s.lanes.motion, s.drive.motion, s.ctrl.motion) = motions
  source : s.lanes.source = source
  period : s.drive.period = period

/-- All receivers hold one position and one motion. -/
def State.HoldsAll (s : State) (p : Pos) (m : Motion) (k : SourceKind) (n : Nat) : Prop := s.Holds (p, p, p) (m, m, m) k n

/-- The receivers are in step when they hold what the belt has. -/
theorem State.handedWf_iff (s : State) :
    s.handedWf ↔ s.HoldsAll s.belt.position s.belt.motion s.belt.source.kind s.belt.par.pwmPeriod := by
  constructor
  · rintro ⟨l, t, c, lm, dm, cm, k, n⟩
    exact ⟨by rw [l, t, c], by rw [lm, dm, cm], k, n⟩
  · rintro ⟨ps, ms, k, n⟩
    simp only [Prod.mk.injEq] at ps ms
    exact ⟨ps.1, ps.2.1, ps.2.2, ms.1, ms.2.1, ms.2.2, k, n⟩

/-- What hands nothing leaves what the receivers hold. -/
theorem State.Holds.same {s t : State} {ps : Pos × Pos × Pos} {ms : Motion × Motion × Motion} {k : SourceKind} {n : Nat}
    (h : s.Holds ps ms k n) (g : HandedSame s t) : t.Holds ps ms k n := by
  obtain ⟨rfl, rfl, rfl, rfl⟩ := h
  obtain ⟨⟨l, lm, ks⟩, tb, c, ⟨dm, np⟩, cm⟩ := g
  simp only [Prod.mk.injEq] at tb c
  obtain ⟨tb, _⟩ := tb
  obtain ⟨c, _⟩ := c
  exact ⟨by rw [l, tb, c], by rw [lm, dm, cm], ks, np⟩

/-- What a position update makes the Lane Inputs hold (R12). -/
theorem handedSame_lanesUpdate (u : Update) (s : State) : HandedSame
    { s with lanes := { s.lanes with position := u.position, motion := u.motion, source := u.source } }
    (s.lanesUpdate u) := by
  unfold State.lanesUpdate
  refine HandedSame.trans ?_ (HandedSame.foldl (handedSame_closeByLength u) _ _)
  exact ⟨by simp, by simp, by simp, by simp, by simp⟩

/-- What a position update makes the Tracking Table hold (R12). -/
theorem handedSame_tableUpdate (u : Update) (s : State) : HandedSame
    { s with table := { s.table with position := u.position, motion := u.motion } } (s.tableUpdate u) := by
  unfold State.tableUpdate
  dsimp only
  split
  · exact HandedSame.foldl (fun t tag => handedSame_checkRecord t u.position tag) _ _
  · exact .refl _

/-- What a position update makes the Action Schedule hold (R12). -/
theorem handedSame_driveUpdate (u : Update) (s : State) : HandedSame
    { s with sched := { s.sched with position := u.position, motion := u.motion } } (s.driveUpdate u) := by
  have taken : HandedSame { s with sched := { s.sched with position := u.position, motion := u.motion } }
      (s.scheduleUpdate u) := by
    rw [State.scheduleUpdate, State.workOutAdvances_eq]
    exact ⟨⟨rfl, rfl, rfl⟩, rfl, rfl, ⟨rfl, rfl⟩, rfl⟩
  unfold State.driveUpdate
  dsimp only
  split
  · exact taken.trans (HandedSame.foldl (fun t v => handedSame_examineQueue u.position v _ t) _ _)
  · exact taken

namespace State.Holds

variable {s : State} {l x c : Pos} {lm dm cm : Motion} {k : SourceKind} {n : Nat} {u : Update}

/-- The Lane Inputs take an update (R12). -/
theorem lanesUpdate (h : s.Holds (l, x, c) (lm, dm, cm) k n) :
    (s.lanesUpdate u).Holds (u.position, x, c) (u.motion, dm, cm) u.source n := by
  obtain ⟨ps, ms, _, np⟩ := h
  simp only [Prod.mk.injEq] at ps ms
  exact same (s := { s with lanes := { s.lanes with position := u.position, motion := u.motion, source := u.source } })
    ⟨by rw [ps.2.1, ps.2.2], by rw [ms.2.1, ms.2.2], rfl, np⟩ (handedSame_lanesUpdate u s)

/-- The Tracking Table takes an update (R12). -/
theorem tableUpdate {ms : Motion × Motion × Motion} (h : s.Holds (l, x, c) ms k n) :
    (s.tableUpdate u).Holds (l, u.position, c) ms k n := by
  obtain ⟨ps, ms, ks, np⟩ := h
  simp only [Prod.mk.injEq] at ps
  exact same (s := { s with table := { s.table with position := u.position, motion := u.motion } })
    ⟨by rw [ps.1, ps.2.2], ms, ks, np⟩ (handedSame_tableUpdate u s)

/-- The Action Schedule takes an update (R12). -/
theorem driveUpdate {ms : Motion × Motion × Motion} (h : s.Holds (l, x, c) ms k n) :
    (s.driveUpdate u).Holds (l, x, u.position) ms k n := by
  obtain ⟨ps, ms, ks, np⟩ := h
  simp only [Prod.mk.injEq] at ps
  exact same (s := { s with sched := { s.sched with position := u.position, motion := u.motion } })
    ⟨by rw [ps.1, ps.2.1], ms, ks, np⟩ (handedSame_driveUpdate u s)

/-- The Lane Inputs take a motion change (R17, R45). -/
theorem lanesMotion {ps : Pos × Pos × Pos} (h : s.Holds ps (lm, dm, cm) k n) (new : Motion) :
    (s.lanesMotion new).Holds ps (new, dm, cm) k n := by
  obtain ⟨ps, ms, ks, np⟩ := h
  simp only [Prod.mk.injEq] at ms
  refine same (s := { s with lanes := { s.lanes with motion := new } }) ⟨ps, by rw [ms.2.1, ms.2.2], ks, np⟩ ?_
  unfold State.lanesMotion
  dsimp only
  split
  · exact HandedSame.trans ⟨by simp, by simp, by simp, by simp, by simp⟩ (HandedSame.foldl handedSame_abandonByReversal _ _)
  · exact .refl _

/-- The Valve Drive takes a motion change (R17, R129). -/
theorem driveMotion {ps : Pos × Pos × Pos} (h : s.Holds ps (lm, dm, cm) k n) (old new : Motion) :
    (s.driveMotion old new).Holds ps (lm, new, cm) k n := by
  obtain ⟨ps, ms, ks, np⟩ := h
  simp only [Prod.mk.injEq] at ms
  refine same (s := { s with drive := { s.drive with motion := new } }) ⟨ps, by rw [ms.1, ms.2.2], ks, np⟩ ?_
  unfold State.driveMotion
  dsimp only
  split
  · exact HandedSame.foldl handedSame_motionCut _ _
  · exact .refl _

/-- The Line Controller takes a motion change (R17, R143). -/
theorem ctrlMotion {ps : Pos × Pos × Pos} (h : s.Holds ps (lm, dm, cm) k n) (new : Motion) :
    (s.ctrlMotion new).Holds ps (lm, dm, new) k n := by
  obtain ⟨ps, ms, ks, np⟩ := h
  simp only [Prod.mk.injEq] at ms
  exact ⟨ps, by rw [← ms.1, ← ms.2.1]; rfl, ks, np⟩

end State.Holds

namespace State.HoldsAll

variable {s t : State} {p : Pos} {m : Motion} {k : SourceKind} {n : Nat}

/-- What hands nothing leaves what the receivers hold. -/
theorem same (h : s.HoldsAll p m k n) (g : HandedSame s t) : t.HoldsAll p m k n := Holds.same h g

/-- The belt is no receiver. -/
theorem putBelt (h : s.HoldsAll p m k n) (b : Belt) : (s.putBelt b).HoldsAll p m k n :=
  h.same ⟨⟨rfl, rfl, rfl⟩, rfl, rfl, ⟨rfl, rfl⟩, rfl⟩

/-- A source change handed (R26). -/
theorem lanesSource (h : s.HoldsAll p m k n) (k' : SourceKind) : (s.lanesSource k').HoldsAll p m k' n :=
  ⟨h.positions, h.motions, rfl, h.period⟩

/-- The order list is no receiver. -/
theorem choose (h : s.HoldsAll p m k n) (j : Nat) : (s.choose j).2.HoldsAll p m k n :=
  h.same ⟨by simp, by simp, by simp, by simp, by simp⟩

/-- An offer hands nothing. -/
theorem offer (h : s.HoldsAll p m k n) (x : Notice) : (s.offer x).HoldsAll p m k n :=
  h.same ((HandedSame.refl s).offer x)

/-- An occurrence hands nothing. -/
theorem occur (h : s.HoldsAll p m k n) (f : FaultFlag) : (s.occur f).HoldsAll p m k n :=
  h.same ((HandedSame.refl s).occur f)

/-- A position update handed in any order (R12). -/
theorem handUpdate (kind : UpdateKind) (h : s.HoldsAll p s.belt.motion s.belt.source.kind n) :
    (s.handUpdate kind).HoldsAll s.belt.position s.belt.motion s.belt.source.kind n := by
  have start := h.choose 6
  unfold State.handUpdate
  dsimp only
  split
  · exact (Holds.lanesUpdate start (u := s.belt.update kind)).tableUpdate.driveUpdate
  · exact (Holds.lanesUpdate start (u := s.belt.update kind)).driveUpdate.tableUpdate
  · exact (Holds.tableUpdate start (u := s.belt.update kind)).lanesUpdate.driveUpdate
  · exact (Holds.tableUpdate start (u := s.belt.update kind)).driveUpdate.lanesUpdate
  · exact (Holds.driveUpdate start (u := s.belt.update kind)).lanesUpdate.tableUpdate
  · exact (Holds.driveUpdate start (u := s.belt.update kind)).tableUpdate.lanesUpdate

/-- A motion change handed (R17). -/
theorem handMotion {old : Motion} (h : s.HoldsAll p old k n) : (s.handMotion old).HoldsAll p s.belt.motion k n := by
  have start := h.choose 2
  unfold State.handMotion
  split
  · rename_i e
    rwa [e]
  dsimp only
  split
  · exact ((Holds.lanesMotion (start.offer _) _).driveMotion _ _).ctrlMotion _
  · exact offer (((Holds.lanesMotion start _).driveMotion _ _).ctrlMotion _) _

/-- A source change handed (R26). -/
theorem handSource (h : s.HoldsAll p m k n) : s.handSource.HoldsAll p m s.belt.source.kind n := (h.offer _).lanesSource _

/-- A source change handed, if there is one (R26). -/
theorem handSourceFrom (h : s.HoldsAll p m k n) : (s.handSourceFrom k).HoldsAll p m s.belt.source.kind n := by
  unfold State.handSourceFrom
  split
  · rename_i e
    rwa [e]
  · exact h.handSource

/-- What the Line Controller makes of an entry into LOST hands nothing (R148). -/
theorem takeLost (h : s.HoldsAll p m k n) (cause : LostCause) : (s.takeLost cause).HoldsAll p m k n := by
  unfold State.takeLost
  split
  · exact h.same (handedSame_halt s _)
  · exact h

end State.HoldsAll

end Sys2Proof.Machine
end

section
/-! PROOFS. Every event of the belt ends with its receivers in step (R12, R17, R26). -/

namespace Sys2Proof.Machine

/-- The receivers hold what the belt has, the Valve Drive a PWM period, the belt its line parameters. During a SET_LINE the
period is still the one before. -/
structure State.InStep (period : Nat) (par : LineParams) (s : State) : Prop where
  holds : s.HoldsAll s.belt.position s.belt.motion s.belt.source.kind period
  par : s.belt.par = par

/-- Between events the period is the belt's. -/
theorem State.handedWf_iff_inStep (s : State) : s.handedWf ↔ s.InStep s.belt.par.pwmPeriod s.belt.par :=
  (State.handedWf_iff s).trans ⟨fun h => ⟨h, rfl⟩, fun h => h.holds⟩

/-- From what the receivers hold of a belt. -/
theorem State.inStep_of {s : State} {b : Belt} {n : Nat} {q : LineParams} (hb : s.belt = b) (hq : b.par = q)
    (h : s.HoldsAll b.position b.motion b.source.kind n) : s.InStep n q := by
  subst hb
  exact ⟨h, hq⟩

/-- What hands nothing and leaves the belt keeps the receivers in step. -/
theorem State.inStep_same {s t : State} {n : Nat} {q : LineParams} (hs : s.InStep n q) (hb : t.belt = s.belt)
    (g : HandedSame s t) : t.InStep n q := State.inStep_of hb hs.par (hs.holds.same g)

/-- What another belt keeps of what the receivers hold. -/
theorem State.inStep_putBelt {s : State} {b : Belt} {n : Nat} {q : LineParams} (hs : s.InStep n q)
    (hp : b.position = s.belt.position) (hm : b.motion = s.belt.motion) (hk : b.source.kind = s.belt.source.kind)
    (hq : b.par = s.belt.par) : (s.putBelt b).InStep n q := by
  refine State.inStep_of (b := b) rfl (hq.trans hs.par) (State.HoldsAll.putBelt ?_ b)
  rw [hp, hm, hk]
  exact hs.holds

/-! ### What the belt's own operations leave (chapter 1) -/

/-- Entering STOPPED keeps position, source and parameters (R16). -/
@[simp] theorem Belt.stop_keeps (b : Belt) :
    b.stop.position = b.position ∧ b.stop.source = b.source ∧ b.stop.par = b.par ∧ b.stop.motion = .stopped := by
  unfold Belt.stop
  split
  · rename_i h
    exact ⟨rfl, rfl, rfl, h⟩
  · exact ⟨rfl, rfl, rfl, rfl⟩

/-- Entering LOST keeps position and parameters (R20). -/
@[simp] theorem Belt.lose_keeps (b : Belt) :
    b.lose.position = b.position ∧ b.lose.source = .lost ∧ b.lose.par = b.par ∧ b.lose.motion = .stopped := by
  unfold Belt.lose
  simp

/-- A change of RUN to active leaves position, motion, source and parameters (R10). -/
@[simp] theorem Belt.runOn_keeps (b : Belt) :
    b.runOn.position = b.position ∧ b.runOn.source = b.source ∧ b.runOn.par = b.par ∧ b.runOn.motion = b.motion := by
  unfold Belt.runOn
  dsimp only
  split
  case h_4 => split <;> exact ⟨rfl, rfl, rfl, rfl⟩
  all_goals exact ⟨rfl, rfl, rfl, rfl⟩

/-- A count leaves the parameters. -/
@[simp] theorem Belt.par_feed (b : Belt) (d : Dir) : (b.feed d).par = b.par ∧ (b.feed d).source = b.source := by
  unfold Belt.feed
  split
  case h_4 | h_6 => split <;> exact ⟨rfl, rfl⟩
  all_goals split <;> exact ⟨rfl, rfl⟩

/-- An encoder count leaves the parameters (R12). -/
@[simp] theorem Belt.par_encoderCount (b : Belt) (d : Dir) (now : Nat) : (b.encoderCount d now).par = b.par := by
  have confirm : ∀ c : Belt, c.confirm.par = c.par := fun c => by
    unfold Belt.confirm
    split
    case h_5 => split <;> rfl
    all_goals rfl
  unfold Belt.encoderCount
  simp [Belt.restartLoss, Belt.restartStop, confirm, Belt.time, Belt.move]

/-- A generated count leaves source and parameters (R21, R27). -/
@[simp] theorem Belt.generatedCount_keeps (b : Belt) :
    b.generatedCount.par = b.par ∧ b.generatedCount.source = b.source := by
  unfold Belt.generatedCount
  simp [Belt.move]

/-! ### The belt's operations -/

section

variable {s : State} {n : Nat} {q : LineParams}

/-- An entry into LOST hands source and motion (R17, R26). -/
theorem State.inStep_enterLost (cause : LostCause) (h : s.InStep n q) : (s.enterLost cause).InStep n q := by
  have told : ((s.putBelt s.belt.lose).handLost cause).HoldsAll s.belt.position s.belt.motion .lost n :=
    ((((h.holds.putBelt s.belt.lose).offer _).lanesSource .lost).takeLost cause)
  have handed := told.handMotion
  refine State.inStep_of (b := s.belt.lose) (by simp) (by simpa using h.par) ?_
  unfold State.enterLost
  simpa [Source.kind] using handed

/-- The end of a CONFIRMING begun in LOST hands what it changes (R24, R25). -/
theorem State.inStep_gapFromLost (h : s.InStep n q) : s.gapFromLost.InStep n q := by
  unfold State.gapFromLost
  split
  · have told : ((s.putBelt { s.belt.lose with restart := false }).handLostAndSilence .gap).HoldsAll s.belt.position
        s.belt.motion .lost n := by
      have start := (((h.holds.putBelt { s.belt.lose with restart := false }).offer
        (.source .lost (some .gap))).lanesSource .lost).choose 2
      unfold State.handLostAndSilence
      dsimp only
      split
      · exact (start.takeLost _).same (handedSame_halt _ _)
      · exact (start.same (handedSame_halt _ .silence)).takeLost _
    have handed := told.handMotion
    refine State.inStep_of (b := { s.belt.lose with restart := false }) (by simp) (by simpa using h.par) ?_
    simpa [Source.kind] using handed
  · exact State.inStep_enterLost _ h

/-- The end of a CONFIRMING hands what it changes (R24). -/
theorem State.inStep_gapExpiry (h : s.InStep n q) : s.gapExpiry.InStep n q := by
  unfold State.gapExpiry
  split
  · split
    · exact State.inStep_gapFromLost h
    split
    · exact State.inStep_enterLost _ h
    split
    · have handed := (h.holds.putBelt s.belt.estimateAgain).handSource
      exact State.inStep_of (b := s.belt.estimateAgain) (by simp) h.par handed
    · exact State.inStep_enterLost _ h
  all_goals exact h

/-- A change of RUN hands what it changes (R10). -/
theorem State.inStep_syncRun (h : s.InStep n q) : s.syncRun.InStep n q := by
  unfold State.syncRun
  split
  · exact h
  split
  · exact State.inStep_putBelt h (by simp) (by simp) (by simp) (by simp)
  have off : (s.putBelt s.belt.runOff).InStep n q := State.inStep_putBelt h rfl rfl rfl rfl
  dsimp only
  split
  · exact State.inStep_putBelt off rfl rfl rfl rfl
  · have handed := (off.holds.putBelt { s.belt.runOff.stop with gen := none }).handMotion
    refine State.inStep_of (b := { s.belt.runOff.stop with gen := none }) (by simp) (by simpa using off.par) ?_
    have moved : s.belt.runOff.motion = s.belt.motion := rfl
    simpa [moved] using handed
  · exact State.inStep_enterLost _ off
  · exact State.inStep_enterLost _ off
  · exact off

/-- Each effect of a timer of the belt or of RUN hands what it changes (R4). -/
theorem State.inStep_effect (e : LineEffect) (h : s.InStep n q) : (LineEffect.fire s e).InStep n q := by
  have occurred : ∀ t : State, t.InStep n q → (t.occur .encLost).InStep n q := fun t ht =>
    State.inStep_same ht (by simp) ((HandedSame.refl t).occur _)
  cases e with
  | run => exact State.inStep_syncRun h
  | stop =>
    change s.stopExpiry.InStep n q
    unfold State.stopExpiry
    split
    · have handed := (h.holds.putBelt s.belt.stop).handMotion
      refine State.inStep_of (b := s.belt.stop) (by simp) (by simpa using h.par) ?_
      simpa  using handed
    · exact h
  | loss =>
    change s.lossExpiry.InStep n q
    unfold State.lossExpiry
    split
    · split
      · have handed := ((h.holds.putBelt s.belt.estimate).occur .encLost).handSource
        rw [State.belt_occur] at handed
        exact State.inStep_of (b := s.belt.estimate) (by simp) h.par handed
      · exact State.inStep_enterLost _ (occurred s h)
    · exact h
  | limit =>
    change s.limitExpiry.InStep n q
    unfold State.limitExpiry
    split
    · split
      · exact State.inStep_enterLost _ h
      · exact State.inStep_putBelt h rfl rfl rfl rfl
      all_goals exact h
    · exact h
  | gap => exact State.inStep_gapExpiry h
  | silence =>
    change s.silenceExpiry.InStep n q
    unfold State.silenceExpiry
    split
    · have told : (s.putBelt { s.belt with silenceTimer := none, restart := false }).InStep n q :=
        State.inStep_putBelt h rfl rfl rfl rfl
      exact State.inStep_same told (by simp) (handedSame_halt _ _)
    · exact h

/-- A count as it comes hands what it changes (R12, R17, R23, R26). -/
theorem State.inStep_takeCount (d : Dir) (h : s.InStep n q) : (s.takeCount d).InStep n q := by
  have counted : ∀ t : State, t.InStep n q → (t.countEncoder d).InStep n q := fun t ht => by
    have source := (ht.holds.putBelt (t.belt.encoderCount d t.now)).handSourceFrom
    have motion := source.handMotion
    refine State.inStep_of (b := t.belt.encoderCount d t.now) (by simp) (by simpa using ht.par) ?_
    have update := State.HoldsAll.handUpdate .encoder (s := ((t.putBelt (t.belt.encoderCount d t.now)).handSourceFrom
      t.belt.source.kind).handMotion t.belt.motion) (by simpa using motion)
    unfold State.countEncoder
    simpa  using update
  unfold State.takeCount
  split
  · exact counted _ (State.inStep_gapExpiry h)
  · exact counted _ h

/-- A generated count hands what it changes (R21, R27). -/
theorem State.inStep_countGenerated (kind : UpdateKind) (h : s.InStep n q) :
    (s.countGenerated kind).InStep n q := by
  have motion := (h.holds.putBelt s.belt.generatedCount).handMotion
  refine State.inStep_of (b := s.belt.generatedCount) (by simp) (by simpa using h.par) ?_
  have update := State.HoldsAll.handUpdate kind (s := (s.putBelt s.belt.generatedCount).handMotion s.belt.motion)
    (by simpa using motion)
  unfold State.countGenerated
  simpa  using update

/-- A sample of the encoder pins hands what its count changes (R7 to R9). -/
theorem State.inStep_sampleEncoder (p : EncPair) (h : s.InStep n q) : (s.sampleEncoder p).InStep n q := by
  have href : (s.putReference p).InStep n q :=
    State.inStep_of (b := { s.belt with encRef := some p }) rfl h.par
      (h.holds.same ⟨⟨rfl, rfl, rfl⟩, rfl, rfl, ⟨rfl, rfl⟩, rfl⟩)
  unfold State.sampleEncoder
  split
  · exact State.inStep_same h rfl ⟨⟨rfl, rfl, rfl⟩, rfl, rfl, ⟨rfl, rfl⟩, rfl⟩
  · split
    · exact href
    split
    · exact href
    split
    · exact State.inStep_takeCount _ href
    split
    · exact State.inStep_takeCount _ href
    · exact State.inStep_same href (by simp) ((HandedSame.refl _).occur _)
  · split
    · exact href
    split
    · exact State.inStep_takeCount _ href
    · exact href

end

/-- A restart of the PWM base hands the period (R124). -/
theorem State.HoldsAll.restartPwm {s : State} {p : Pos} {m : Motion} {k : SourceKind} {n : Nat} (h : s.HoldsAll p m k n)
    (period : Nat) : (s.restartPwm period).HoldsAll p m k period := by
  have given : State.HoldsAll { s with drive := { s.drive with period := period, base := 0 } } p m k period :=
    ⟨h.positions, h.motions, h.source, rfl⟩
  exact given.same (HandedSame.foldl (fun t v => ⟨by simp, by simp, by simp, by simp, by simp⟩) allValves _)

/-- What keeps the receivers in step, whatever the PWM period and the line parameters, keeps them so between events. -/
theorem State.handedWf_of_inStep {s t : State} (hs : s.handedWf)
    (keep : ∀ n q, s.InStep n q → t.InStep n q) : t.handedWf := by
  have h := keep _ _ ((State.handedWf_iff_inStep s).mp hs)
  exact (State.handedWf_iff_inStep t).mpr ⟨by rw [h.par]; exact h.holds, rfl⟩

/-- What hands nothing and leaves the belt keeps the receivers in step between events. -/
theorem State.handedWf_same {s t : State} (hs : s.handedWf) (hb : t.belt = s.belt) (g : HandedSame s t) : t.handedWf :=
  State.handedWf_of_inStep hs fun _ _ h => State.inStep_same h hb g

/-- An accepted SET_LINE hands what it changes and the PWM period (R4, R5, R124). -/
theorem State.handedWf_applyLine {s : State} (q : LineParams) (h : s.handedWf) : (s.applyLine q).handedWf := by
  have holds := ((State.handedWf_iff_inStep s).mp h).holds
  have before : (if q.mode = s.belt.par.mode then s.lineSameMode q else s.lineNewMode q).InStep s.belt.par.pwmPeriod q := by
    split
    · have given : (s.putBelt { s.belt with par := q, acc := 0 }).InStep s.belt.par.pwmPeriod q := ⟨holds.putBelt _, rfl⟩
      unfold State.lineSameMode
      refine foldl_keeps (P := State.InStep s.belt.par.pwmPeriod q) (fun t e ht => ?_) _ _ ?_
      · unfold LineEffect.fireIfDue
        split
        · exact State.inStep_effect e ht
        · exact ht
      · exact State.inStep_same given (by simp) ⟨by simp, by simp, by simp, by simp, by simp⟩
    · have handed := (holds.putBelt (s.belt.changeMode q)).handSourceFrom.handMotion
      refine State.inStep_of (b := s.belt.changeMode q) (by simp) rfl ?_
      have position : (s.belt.changeMode q).position = s.belt.position := rfl
      unfold State.lineNewMode
      simpa [position] using handed
  have par := before.par
  have restarted := before.holds.restartPwm q.pwmPeriod
  rw [State.handedWf_iff]
  unfold State.applyLine
  simpa [par] using restarted

/-- Time advances, and the belt's timers with it. -/
theorem State.handedWf_advanceTime {s : State} (h : s.handedWf) : s.advanceTime.handedWf := by
  have kind : s.belt.source.tick.kind = s.belt.source.kind := by cases s.belt.source <;> rfl
  unfold State.advanceTime
  refine foldl_keeps (P := State.handedWf) (f := State.tickValve) (fun t v ht => ht) _ _ ?_
  obtain ⟨l, t, c, lm, dm, cm, k, n⟩ := h
  exact ⟨l, t, c, lm, dm, cm, k.trans kind.symm, n⟩

/-- A sample of an eye hands nothing (R34 to R36). -/
theorem State.handedWf_sampleEye {s : State} (l : Fin 8) (level : Level) (h : s.handedWf) :
    (s.sampleEye l level).handedWf := by
  have raw := (HandedSame.refl s).putLane l { s.lane l with raw := level }
  have debounced : ∀ t : State, HandedSame s t → HandedSame s (t.debounce l) := fun t ht => by
    unfold State.debounce
    split
    · exact ht.trans (handedSame_confirmEdge t l _)
    · exact ht
  refine State.handedWf_same h (by simp) ?_
  unfold State.sampleEye
  dsimp only
  split
  · split
    · exact raw.putLane l _
    · exact raw
  · split
    · exact raw
    split
    · exact debounced _ (raw.putLane l _)
    · exact raw.putLane l _

/-- Every command keeps the receivers in step. -/
theorem keptByEvents_handedWf : KeptByEvents State.handedWf where
  ofBlocks s t hb h := State.handedWf_same h hb.belt
    ⟨by simp [hb.lanes], by rw [hb.table], by rw [hb.sched], by simp [hb.drive], hb.motion⟩
  line s q _ _ h := State.handedWf_applyLine q h
  position s p _ h := by
    have update := (((State.handedWf_iff s).mp h).putBelt { s.belt with position := p }).handUpdate .set
    refine (State.handedWf_iff _).mpr ?_
    unfold State.applyPosition
    simpa using update
  lane s l q h := State.handedWf_same h (by simp) (handedSame_applyLane s l q)
  valve s v q _ _ h := h
  hold s v d h := h
  test s v d _ _ _ _ _ h := State.handedWf_same h (by simp)
    ⟨by simp, by simp, by simp, by unfold State.startTest; dsimp only; split <;> exact ⟨rfl, rfl⟩, by simp⟩
  enable s v h := State.handedWf_same h (by simp) ⟨by simp, by simp, by simp, by simp, by simp⟩
  disable s v h := by
    unfold State.disableValve
    split
    · exact h
    · exact State.handedWf_same (s := s.putValve v (s.valve v).disable) h (by simp) (handedSame_purgeQueue _ v)
  arm s _ h := by
    have active := HandedSame.foldl (op := State.activateIfEnabled) (fun t l => by
      unfold State.activateIfEnabled State.activateLane
      split
      · exact (HandedSame.refl t).putLane l _
      · exact .refl t) allLanes (s.putLine .armed)
    have armed : (s.putLine .armed).handedWf := h
    exact State.handedWf_same armed (by simp) (active.offer _)
  disarm s h := by
    have config : (s.putLine .config).handedWf := h
    exact State.handedWf_same config (by simp) ((handedSame_leaveArmed _).offer _)
  verdict s r c ps placed _ _ _ _ ha h := State.handedWf_same h rfl
    ⟨⟨rfl, rfl, rfl⟩, rfl, State.held_admission ha, ⟨rfl, rfl⟩, rfl⟩
  pass s r c _ _ _ h := h
  cancel s tag _ h := State.handedWf_same h (by simp)
    (HandedSame.foldl (fun t v => ((HandedSame.refl t).putQueue v _).writeOutcomes _ _) allValves s)
  reset s cause settings := ⟨rfl, rfl, rfl, rfl, rfl, rfl, rfl, rfl⟩
  time s h := State.handedWf_advanceTime h
  sample s p h := State.handedWf_of_inStep h fun _ _ => State.inStep_sampleEncoder p
  stepTimed s h := by
    unfold State.stepTimed
    split
    · exact State.handedWf_of_inStep h fun _ _ k =>
        State.inStep_countGenerated _ (State.inStep_putBelt k rfl rfl rfl rfl)
    · exact h
  stepEstimated s h := by
    unfold State.stepEstimated
    split
    · exact State.handedWf_of_inStep h fun _ _ k =>
        State.inStep_countGenerated _ (State.inStep_putBelt k rfl rfl rfl rfl)
    · exact h
  runFilter s level h := State.handedWf_of_inStep (s := { s with
    belt := { s.belt with runFiltered := level, runTimer := 0 }, pins := { s.pins with run := level } }) h
      fun _ _ => State.inStep_syncRun
  effect s e h := State.handedWf_of_inStep h fun _ _ => State.inStep_effect e
  eye s l level h := State.handedWf_sampleEye l level h
  debounce s l h := by
    unfold State.debounce
    split
    · exact State.handedWf_same h (by simp) (handedSame_confirmEdge s l _)
    · exact h
  pullIn s v h := State.handedWf_same h (by simp) ⟨by simp, by simp, by simp, by simp, by simp⟩
  overtime s v h := State.handedWf_same h (by simp) (handedSame_overtimeOf s v)
  testEnd s v h := State.handedWf_same h (by simp) ⟨by simp, by simp, by simp, by simp, by simp⟩
  lastMicro s v h := by
    have counted : (s.putValve v { s.valve v with active := (s.valve v).active + 1 }).handedWf := h
    unfold State.lastMicro
    dsimp only
    split
    · split
      · exact State.handedWf_same counted (by simp) (handedSame_overtimeOf _ v)
      · exact State.handedWf_same counted (by simp) ⟨by simp, by simp, by simp, by simp, by simp⟩
    · exact counted
  period s v h := State.handedWf_same h (by simp)
    ⟨by simp, by simp, by simp, by simp [State.periodStart], by simp⟩
  onTime s v h := State.handedWf_same h (by simp)
    ⟨by simp, by simp, by simp, by unfold State.onTimeEnd; dsimp only; split <;> exact ⟨rfl, rfl⟩, by simp⟩
  railFalls s h := State.handedWf_same h (by simp) (handedSame_railFalls s)
  railRises s h := State.handedWf_same h (by simp)
    ⟨by simp, by simp, by simp, by simp, (tells_railRises s (fs := [])).motion⟩

/-- Settles O59: every event of the belt ends with its receivers in step, every other leaves them. -/
theorem everyStepKeepsTheReceiversInStep : Obligations.EveryStepKeepsTheReceiversInStep := by
  intro s t hs ht
  exact keptByEvents_handedWf.step hs ht

/-- Settles O60: the part at rest is its own reset, and every invariant holds after a reset. -/
theorem invariantsHoldAtReset : Obligations.InvariantsHoldAtReset := by
  have reset : State.reset = State.resetPart State.reset .powerOn .reset := rfl
  unfold Obligations.InvariantsHoldAtReset
  rw [reset]
  refine ⟨keptByOperations_storesWf.reset _ _ _, keptByOperations_linkWf.reset _ _ _,
    keptByOperations_lineWf.reset _ _ _, keptByOperations_disabledWf.reset _ _ _, (State.outputsWf_iff _).mpr
    ((keptByValves_outputWf.operations keptByOperations_railInStep).reset _ _ _),
    ((keptByValves_activeWf.operations keptByOperations_lineWf).reset _ _ _).2,
    keptByEvents_beltWf.reset _ _ _, keptByEvents_handedWf.reset _ _ _⟩

end Sys2Proof.Machine
end

section
/-! PROOFS. The step's command, the resets (R2) and the requests that the Link Port answers alone (R163, R165 to R169),
with the points of a target (R72, R73). -/

namespace Sys2Proof.Machine

/-- Settles O1: the queue's front is the command the step takes. -/
theorem stepRunsTheFrontCommand : Obligations.StepRunsTheFrontCommand := fun _ _ _ => rfl

/-! ### Resets (R2) -/

/-- Every lane of the reset value is the reset lane of its own pin (R33). -/
theorem LaneInputs.getElem_reset (eyes : Vector EyePin 8) (l : Fin 8) :
    (LaneInputs.reset eyes).lanes[l] = .reset (eyes[l].level true) := by
  obtain ⟨i, hi⟩ := l
  match i, hi with
  | 0, _ | 1, _ | 2, _ | 3, _ | 4, _ | 5, _ | 6, _ | 7, _ => rfl

/-- A reset leaves the Belt Position Unit, the Lane Inputs and the Tracking Table at their reset values. -/
theorem State.resetBelt_resetPart (s : State) (cause : ResetCause) (l : LinkSettings) :
    ResetBelt s (s.resetPart cause l) where
  params := rfl
  counting := ⟨rfl, rfl, rfl, rfl, rfl⟩
  run := ⟨rfl, rfl⟩
  speed := ⟨rfl, rfl, rfl, rfl⟩
  source := ⟨rfl, rfl, rfl⟩
  timers := ⟨rfl, rfl, rfl, rfl⟩
  handed := ⟨rfl, rfl, rfl⟩
  lanes := fun k => by
    have lane : (s.resetPart cause l).lane k = .reset (s.pins.eyes[k].level true) := LaneInputs.getElem_reset _ k
    rw [lane]
    exact ⟨rfl, rfl, rfl⟩
  eyes := fun k => congrArg Lane.confirmed (LaneInputs.getElem_reset s.pins.eyes k)
  table := rfl

/-- A reset leaves the Action Schedule, the Valve Drive and the Rail Monitor at their reset values. -/
theorem State.resetDrive_resetPart (s : State) (cause : ResetCause) (l : LinkSettings) :
    ResetDrive (s.resetPart cause l) := by
  have valve : ∀ v : Fin 16, (s.resetPart cause l).valve v = .reset := fun v => by
    simp [State.valve, State.resetPart, Drive.reset]
  exact {
    queues := fun v => by simp [State.queue, State.advance, State.resetPart, Schedule.reset]
    slots := by
      change Schedule.reset.slotsInUse = 0
      decide
    update := ⟨rfl, rfl, rfl⟩
    valves := valve
    pins := fun v => congrArg Valve.pin (valve v)
    pwm := ⟨rfl, rfl⟩
    handed := ⟨rfl, rfl⟩
    rail := rfl }

/-- A reset leaves the Line Controller and the Link Port at their reset values, with the settings it is given. -/
theorem State.resetLink_resetPart (s : State) (cause : ResetCause) (l : LinkSettings) :
    ResetLink (s.resetPart cause l) cause l where
  line := ⟨rfl, rfl, rfl⟩
  flags := fun f => by simp [State.flag, LineControl.flag, State.resetPart, LineControl.reset]
  link := rfl

/-- Everything the manual gives a reset (R2). -/
theorem State.resetLeaves_resetPart (s : State) (cause : ResetCause) (l : LinkSettings) :
    ResetLeaves s (s.resetPart cause l) cause l :=
  ⟨s.resetBelt_resetPart cause l, s.resetDrive_resetPart cause l, s.resetLink_resetPart cause l, rfl, rfl⟩

/-- RESETn low for long enough resets, a shorter low level does nothing (R2). -/
theorem exec_pinReset (n : Nat) (s : State) :
    exec (.pinReset n) s = .next (if 10 ≤ n then s.resetPart .pin .reset else s) := rfl

/-- The end of a RESET reply is the request reset, with the settings in force (R177). -/
theorem State.transmitEnds_reset (s : State) (bytes : List Byte) (e : Nat) (h : s.link.tx = .sending bytes .reset e) :
    s.transmitEnds = s.resetPart .request s.link.settings := by
  simp [State.transmitEnds, h]

/-- Settles O3: each kind of reset puts every block at its reset value, and RESET waits for its reply's last bit. -/
theorem threeKindsOfReset : Obligations.ThreeKindsOfReset := by
  refine ⟨fun s => ⟨_, rfl, s.resetLeaves_resetPart .powerOn _⟩, fun s n long => ?_, fun s n short => ?_,
    fun s tag hready => ?_, fun s bytes e sending => ?_⟩
  · refine ⟨_, ?_, s.resetLeaves_resetPart .pin _⟩
    rw [exec_pinReset, if_pos long]
    rfl
  · rw [exec_pinReset, if_neg (by omega)]
  · exact exec_known (.reset tag []) .reset tag [] s rfl rfl hready
  · exact ⟨_, congrArg Host.Outcome.next (s.transmitEnds_reset bytes e sending),
      s.resetLeaves_resetPart .request _⟩

/-! ### SET_LINK (R163) -/

/-- SET_LINK with both codes listed stores the settings with its reply (R163). -/
theorem runSetLink_of_parse (p : List Byte) (s : State) (l : LinkSettings) (h : parseLink p = some l) :
    runSetLink p s = ⟨s, [0], .settings l⟩ := by
  simp [runSetLink, h]
  rfl

/-- SET_LINK with a code that is not listed is refused (R163). -/
theorem runSetLink_of_bad (p : List Byte) (s : State) (h : parseLink p = none) :
    runSetLink p s = ⟨s, [3], .nothing⟩ := by
  simp [runSetLink, h]
  rfl

/-- A baud rate that is 0 or above 7 is not listed (Table 9-5). -/
theorem Baud.ofCode?_eq_none (n : Nat) (h : n = 0 ∨ 7 < n) : Baud.ofCode? n = none := by
  unfold Baud.ofCode?
  split
  all_goals first | omega | rfl

/-- A parity that is 0 or above 3 is not listed (Table 9-5). -/
theorem Parity.ofCode?_eq_none (n : Nat) (h : n = 0 ∨ 3 < n) : Parity.ofCode? n = Option.none := by
  unfold Parity.ofCode?
  split
  all_goals first | omega | rfl

/-- The listed codes name the seven baud rates and the three parities (Table 9-7). -/
theorem parseLink_listed : ∀ (i : Fin 7) (j : Fin 3),
    parseLink [BitVec.ofNat 8 (i.val + 1), BitVec.ofNat 8 (j.val + 1)] =
      some ⟨#v[.b9600, .b19200, .b57600, .b115200, .b230400, .b460800, .b921600][i], #v[.none, .even, .odd][j]⟩ := by
  decide

/-- A code that is not listed makes the payload unreadable (Table 9-7). -/
theorem parseLink_unlisted (b q : Byte) (h : b = 0 ∨ 7 < b.toNat ∨ q = 0 ∨ 3 < q.toNat) : parseLink [b, q] = none := by
  have hb : num8 [b, q] 0 = b.toNat := rfl
  have hq : num8 [b, q] 1 = q.toNat := rfl
  have unread : Baud.ofCode? b.toNat = none ∨ Parity.ofCode? q.toNat = none := by
    rcases h with rfl | h | rfl | h
    · exact .inl rfl
    · exact .inl (Baud.ofCode?_eq_none _ (.inr h))
    · exact .inr rfl
    · exact .inr (Parity.ofCode?_eq_none _ (.inr h))
  unfold parseLink
  rw [hb, hq]
  rcases unread with h | h <;> simp [h]

/-- Settles O8: the settings stand behind the reply, to come into force at its last stop bit. -/
theorem setLinkStoresTheSettingsWithItsReply : Obligations.SetLinkStoresTheSettingsWithItsReply := by
  refine ⟨fun s tag i j hready => ?_, fun s tag b q hready hbad => ?_⟩
  · have answered := exec_known (.setLink tag [BitVec.ofNat 8 (i.val + 1), BitVec.ofNat 8 (j.val + 1)])
      .setLink tag _ s rfl rfl hready
    rwa [handRequest, runSetLink_of_parse _ s _ (parseLink_listed i j)] at answered
  · have answered := exec_known (.setLink tag [b, q]) .setLink tag _ s rfl rfl hready
    rwa [handRequest, runSetLink_of_bad _ s (parseLink_unlisted b q hbad)] at answered

/-! ### The receive queue (R167 to R169) -/

/-- Settles O10: with the slot full or the hold mark set a frame waits, and a third is an occurrence of LINK_OVERRUN. -/
theorem requestsWaitAndOverrun : Obligations.RequestsWaitAndOverrun := by
  intro i f s hframe held
  refine ⟨fun room => ?_, fun full => ?_⟩
  · rw [exec_of_frame i f s hframe, State.acceptFrame, s.offerFrame_room f room]
    exact congrArg Host.Outcome.next (State.executeOldest_waits _ held)
  · have sameLink : (s.occur .linkOverrun).link.slot ≠ none ∨ (s.occur .linkOverrun).link.hold = true := by
      simpa using held
    rw [exec_of_frame i f s hframe, State.acceptFrame, s.offerFrame_full f full, State.executeOldest_waits _ sameLink]

/-- A frame of another kind is answered UNKNOWN_KIND (R169). -/
theorem State.execute_unknown (s : State) (f : Frame) (h : RequestKind.ofCode? f.kind = none) :
    s.execute f = s.withReply (f.kind + 128) f.tag [1] .nothing := by
  unfold State.execute
  rw [answerFrame_unknown f s h]
  rfl

/-- A frame of a known kind with another size is answered BAD_LENGTH (R169). -/
theorem State.execute_badLength (s : State) (f : Frame) (k : RequestKind) (hkind : RequestKind.ofCode? f.kind = some k)
    (hsize : f.payload.length ≠ k.size) : s.execute f = s.withReply (f.kind + 128) f.tag [2] .nothing := by
  have answer : answerFrame f s = s.refuse .badLength := by simp [answerFrame, hkind, hsize]
  unfold State.execute
  rw [answer]
  rfl

/-- Settles O11: the kind is looked at first, then the size. -/
theorem unknownKindAndWrongSizeAreAnswered : Obligations.UnknownKindAndWrongSizeAreAnswered := by
  intro i f s hframe hready
  have accepted : exec i s = .next (s.execute f) := by rw [exec_of_frame i f s hframe, s.acceptFrame_ready f hready]
  exact ⟨fun unknown => by rw [accepted, s.execute_unknown f unknown],
    fun k hkind hsize => by rw [accepted, s.execute_badLength f k hkind hsize]⟩

/-! ### The gap and idle timers (R165, R166) -/

/-- Settles O17: each timer acts in the one receiver state it runs in. -/
theorem gapAndIdleTimersReturnToHunt : Obligations.GapAndIdleTimersReturnToHunt := by
  have gap : ∀ s, exec .gapTimerExpiry s = .next s.gapTimerExpired := fun _ => rfl
  have idle : ∀ s, exec .idleTimerExpiry s = .next s.idleTimerExpired := fun _ => rfl
  refine ⟨fun s got g hrx => ?_, fun s i hrx hline => ?_, fun s i hrx hline => ?_, fun s hrx => ⟨?_, ?_⟩⟩
  · simp [gap, State.gapTimerExpired, hrx, State.putRx]
  · simp [idle, State.idleTimerExpired, hrx, hline, State.putRx]
  · rw [idle, State.idleTimerExpired]
    split
    · rename_i hidle; exact absurd hidle hline
    · rfl
  · simp [gap, State.gapTimerExpired, hrx]
  · simp [idle, State.idleTimerExpired, hrx]

/-! ### The points of a target (R72, R73) -/

/-- Settles O40: each end takes the point of its own edge, and a record's targets the offsets that hold now. -/
theorem nominalPointsFollowTheItem : Obligations.NominalPointsFollowTheItem := by
  intro v start value nozzle eye leading trailing
  exact ⟨rfl, rfl, rfl, rfl, fun _ _ _ _ => rfl⟩

end Sys2Proof.Machine
end

section
/-! PROOFS. Offered notices and occurring flags (R154, R160, R171, R172). -/

namespace Sys2Proof.Machine

/-- Whether a queued notice can begin, read from the two fields (R174). -/
theorem Link.noticeCanBegin_iff (l : Link) : l.noticeCanBegin = true ↔ l.tx = .free ∧ l.slot = none := by
  simp [Link.noticeCanBegin]

/-- A dropped notice that finds NOTICE_DROP set takes its mark and offers nothing (R160). -/
theorem State.noticeDropped_set (s : State) (h : (s.flag .noticeDrop).set = true) :
    s.noticeDropped = s.putFlag .noticeDrop ⟨true, false⟩ := by
  simp [State.noticeDropped, h]

/-- A dropped notice that finds NOTICE_DROP clear sets it and offers its FAULT notice (R160). -/
theorem State.noticeDropped_clear (s : State) (h : (s.flag .noticeDrop).set = false) :
    s.noticeDropped = (s.putFlag .noticeDrop ⟨true, false⟩).offerDropFault := by
  simp [State.noticeDropped, h]

/-- The FAULT notice of NOTICE_DROP is masked, or finds a queue that cannot have moved (R171, R172). -/
theorem State.offerDropFault_lost (s : State)
    (h : s.link.mask.getLsbD 7 = false ∨ s.link.tx ≠ .free ∨ s.link.slot ≠ none) : s.offerDropFault = s := by
  have cannot : (s.link.enables (.fault .noticeDrop) && s.link.noticeCanBegin) = false := by
    rw [Bool.and_eq_false_iff]
    rcases h with h | h | h
    · exact .inl h
    · exact .inr (by rw [Bool.eq_false_iff, ne_eq, s.link.noticeCanBegin_iff]; exact fun c => h c.1)
    · exact .inr (by rw [Bool.eq_false_iff, ne_eq, s.link.noticeCanBegin_iff]; exact fun c => h c.2)
  simp [State.offerDropFault, cannot]

/-- The FAULT notice of NOTICE_DROP where a queued notice can begin: dropped, or queued behind its beginning, as the
order says (R172). -/
theorem State.offerDropFault_open (s : State) (hmask : s.link.mask.getLsbD 7 = true) (htx : s.link.tx = .free)
    (hslot : s.link.slot = none) : s.offerDropFault =
      if (s.choose 2).1 = 0 then (s.choose 2).2
      else { (s.choose 2).2 with link := s.link.beginNotice.queueNotice (.fault .noticeDrop) } := by
  have can : (s.link.enables (.fault .noticeDrop) && s.link.noticeCanBegin) = true := by
    rw [Bool.and_eq_true]
    exact ⟨hmask, s.link.noticeCanBegin_iff.mpr ⟨htx, hslot⟩⟩
  obtain ⟨o, ho⟩ := s.choose_snd 2
  unfold State.offerDropFault
  rw [if_pos can]
  dsimp only
  rw [ho]

/-- The part after a drop whose FAULT notice is queued behind a notice that has begun. -/
theorem State.droppedThenQueued (s t : State) (n : Notice) (ns : List Notice) (o : List Nat)
    (hnotices : s.link.notices = n :: ns)
    (ht : t = { s.putFlag .noticeDrop ⟨true, false⟩ with
      link := s.link.beginNotice.queueNotice (.fault .noticeDrop), order := o }) : DroppedThenQueued s t := by
  refine ⟨n, ns, o, hnotices, ?_⟩
  rw [ht, s.link.beginNotice_cons n ns hnotices]
  rfl

/-- A list of 32 or more notices has a first. -/
theorem exists_cons_of_full (l : List Notice) (h : 32 ≤ l.length) : ∃ n ns, l = n :: ns := by
  cases l with
  | nil => simp at h
  | cons n ns => exact ⟨n, ns, rfl⟩

section full
variable (s : State) (n : Notice) (enabled : s.link.mask.getLsbD n.position = true) (full : 32 ≤ s.link.notices.length)
include enabled full

/-- A drop that cannot queue the FAULT notice of NOTICE_DROP sets the flag alone (R171, R172). -/
theorem State.offer_dropped (h : (s.flag .noticeDrop).set = true ∨ s.link.mask.getLsbD 7 = false ∨
    s.link.tx ≠ .free ∨ s.link.slot ≠ none) : s.offer n = s.putFlag .noticeDrop ⟨true, false⟩ := by
  rw [s.offer_full n enabled full]
  cases hset : (s.flag .noticeDrop).set with
  | true => exact s.noticeDropped_set hset
  | false =>
    rw [s.noticeDropped_clear hset]
    rw [hset] at h
    exact State.offerDropFault_lost _ (h.resolve_left (by decide))

/-- A drop with NOTICE_DROP clear where a notice can begin goes as the order says (R172). -/
theorem State.offer_dropped_open (hset : (s.flag .noticeDrop).set = false) (hmask : s.link.mask.getLsbD 7 = true)
    (htx : s.link.tx = .free) (hslot : s.link.slot = none) : s.offer n =
      let set := s.putFlag .noticeDrop ⟨true, false⟩
      if (set.choose 2).1 = 0 then (set.choose 2).2
      else { (set.choose 2).2 with link := s.link.beginNotice.queueNotice (.fault .noticeDrop) } := by
  rw [s.offer_full n enabled full, s.noticeDropped_clear hset]
  exact State.offerDropFault_open _ hmask htx hslot

/-- That drop leaves the FAULT notice out, or queues it behind a notice that begins (R172). -/
theorem State.offer_dropped_cases (hset : (s.flag .noticeDrop).set = false) (hmask : s.link.mask.getLsbD 7 = true)
    (htx : s.link.tx = .free) (hslot : s.link.slot = none) :
    (∃ o, s.offer n = { s.putFlag .noticeDrop ⟨true, false⟩ with order := o }) ∨ DroppedThenQueued s (s.offer n) := by
  obtain ⟨m, ms, hm⟩ := exists_cons_of_full _ full
  obtain ⟨o, ho⟩ := (s.putFlag .noticeDrop ⟨true, false⟩).choose_snd 2
  rw [s.offer_dropped_open n enabled full hset hmask htx hslot]
  dsimp only
  split
  · exact .inl ⟨o, ho⟩
  · exact .inr (s.droppedThenQueued _ m ms o hm (by rw [ho]))

/-- With a first number of 0 the FAULT notice is left out. -/
theorem State.offer_dropped_first (hset : (s.flag .noticeDrop).set = false) (hmask : s.link.mask.getLsbD 7 = true)
    (htx : s.link.tx = .free) (hslot : s.link.slot = none) :
    { s with order := [0] }.offer n = { s.putFlag .noticeDrop ⟨true, false⟩ with order := [] } :=
  State.offer_dropped_open { s with order := [0] } n enabled full hset hmask htx hslot

/-- With a first number of 1 it is queued behind a notice that begins. -/
theorem State.offer_dropped_second (hset : (s.flag .noticeDrop).set = false) (hmask : s.link.mask.getLsbD 7 = true)
    (htx : s.link.tx = .free) (hslot : s.link.slot = none) :
    DroppedThenQueued { s with order := [1] } ({ s with order := [1] }.offer n) := by
  obtain ⟨m, ms, hm⟩ := exists_cons_of_full _ full
  exact State.droppedThenQueued _ _ m ms [] hm
    (State.offer_dropped_open { s with order := [1] } n enabled full hset hmask htx hslot)

end full

/-! ### Occurrences (R154, R160) -/

/-- An occurrence of a clear flag whose FAULT notice is masked sets the flag alone (R154, R171). -/
theorem State.occur_masked (s : State) (f : FaultFlag) (hset : (s.flag f).set = false)
    (hmask : s.link.mask.getLsbD 7 = false) : s.occur f = s.putFlag f ⟨true, false⟩ := by
  rw [s.occur_of_clear f hset]
  exact State.offer_masked _ _ hmask

/-- An occurrence of a clear flag whose FAULT notice finds room queues it (R154, R171). -/
theorem State.occur_room (s : State) (f : FaultFlag) (hset : (s.flag f).set = false)
    (hmask : s.link.mask.getLsbD 7 = true) (room : s.link.notices.length < 32) : s.occur f =
      { s.putFlag f ⟨true, false⟩ with link := { s.link with notices := s.link.notices ++ [.fault f] } } := by
  rw [s.occur_of_clear f hset]
  exact State.offer_room _ _ hmask room

/-- An offer that is dropped leaves NOTICE_DROP set with its mark clear (R171, R172). -/
theorem State.flag_offer_dropped (s : State) (n : Notice) (enabled : s.link.mask.getLsbD n.position = true)
    (full : 32 ≤ s.link.notices.length) : (s.offer n).flag .noticeDrop = ⟨true, false⟩ := by
  have written : ∀ o l, State.flag { s.putFlag .noticeDrop ⟨true, false⟩ with order := o, link := l } .noticeDrop =
      ⟨true, false⟩ := fun _ _ => s.flag_putFlag_self .noticeDrop _
  by_cases lost : (s.flag .noticeDrop).set = true ∨ s.link.mask.getLsbD 7 = false ∨ s.link.tx ≠ .free ∨ s.link.slot ≠ none
  · rw [s.offer_dropped n enabled full lost]
    exact written _ _
  · simp only [not_or, Bool.not_eq_true, Bool.not_eq_false, ne_eq, Classical.not_not] at lost
    obtain ⟨hset, hmask, htx, hslot⟩ := lost
    rcases s.offer_dropped_cases n enabled full hset hmask htx hslot with ⟨o, ho⟩ | ⟨_, _, o, _, ho⟩
    · rw [ho]; exact written _ _
    · rw [ho]; exact written _ _

/-- Settles O7: an offer masked, queued or dropped, and an occurrence by the flag it finds, each by its own law. -/
theorem noticesAreOfferedAndFlagsOccur : Obligations.NoticesAreOfferedAndFlagsOccur := by
  refine ⟨fun s n => ⟨s.offer_masked n, s.offer_room n, fun enabled full => ⟨s.offer_dropped n enabled full,
    fun hset hmask htx hslot => ⟨s.offer_dropped_cases n enabled full hset hmask htx hslot,
      ⟨[0], [], s.offer_dropped_first n enabled full hset hmask htx hslot⟩,
      ⟨[1], s.offer_dropped_second n enabled full hset hmask htx hslot⟩⟩⟩⟩,
    fun s f => ⟨s.flag_occur_self f, fun g => s.flag_occur f, fun hset => ?_, fun hset hmask room => ?_,
      s.occur_masked f, fun hset hmask full => ⟨s.occur_of_clear f hset, ?_, fun busy => ?_⟩⟩⟩
  · simp [State.occur, hset]
  · rw [s.occur_room f hset hmask room]
    exact ⟨rfl, fun g hg => (s.flag_putFlag f g _).trans (if_neg (Ne.symm hg))⟩
  · rw [s.occur_of_clear f hset]
    exact State.flag_offer_dropped _ _ hmask full
  · rw [s.occur_of_clear f hset]
    have dropped := State.offer_dropped (s.putFlag f ⟨true, false⟩) (.fault f) hmask full (.inr (.inr busy))
    rw [dropped]
    rfl

end Sys2Proof.Machine
end

section
/-! PROOFS. The transmitter (R162, R174, R175), the bytes of the notices (R183, R184) and the receiver (R162, R164 to
R167, R180). -/

namespace Sys2Proof.Machine

/-! ### TRANSMIT_START and TRANSMIT_END (R174, R175) -/

/-- A reply that waits is sent first, and the emptied slot lets the oldest request execute (R168, R174). -/
theorem State.transmitBegins_reply (s : State) (r : Reply) (hfree : s.link.tx = .free) (hslot : s.link.slot = some r) :
    s.transmitBegins =
      State.executeOldest { s with link := { s.link with slot := none, tx := .sending r.frame.bytes r.after 0 } } := by
  simp [State.transmitBegins, hfree, hslot]

/-- With the slot empty and the hold mark clear the oldest request executes (R168). -/
theorem State.executeOldest_cons (s : State) (f : Frame) (fs : List Frame) (hqueue : s.link.queue = f :: fs)
    (hslot : s.link.slot = none) (hhold : s.link.hold = false) :
    s.executeOldest = State.execute { s with link := { s.link with queue := fs } } f := by
  simp [State.executeOldest, hqueue, hslot, hhold]

/-- A busy transmitter begins nothing (R174). -/
theorem State.transmitBegins_busy (s : State) (b : List Byte) (a : AfterFrame) (e : Nat)
    (h : s.link.tx = .sending b a e) : s.transmitBegins = s := by
  simp [State.transmitBegins, h]

/-- With nothing waiting nothing begins (R174). -/
theorem State.transmitBegins_nothing (s : State) (hfree : s.link.tx = .free) (hslot : s.link.slot = none)
    (hnotices : s.link.notices = []) : s.transmitBegins = s := by
  rw [s.transmitBegins_notice hfree hslot]
  simp [Link.beginNotice, hnotices]

/-- The end of a frame that nothing follows frees the transmitter (R175). -/
theorem State.transmitEnds_nothing (s : State) (b : List Byte) (e : Nat) (h : s.link.tx = .sending b .nothing e) :
    s.transmitEnds = { s with link := { s.link with tx := .free } } := by
  simp [State.transmitEnds, h]

/-- The end of a SET_LINK reply brings its settings into force (R163). -/
theorem State.transmitEnds_settings (s : State) (b : List Byte) (l : LinkSettings) (e : Nat)
    (h : s.link.tx = .sending b (.settings l) e) :
    s.transmitEnds = { s with link := { s.link with tx := .free, settings := l, rx := .quiet 0 } } := by
  simp [State.transmitEnds, h]

/-! ### The bytes of the notices (R183, R184) -/

/-- The pairs of an ITEM_RETIRED notice take two bytes each. -/
theorem length_retiredPairs (pairs : List (Fin 16 × TargetOutcome)) :
    (pairs.flatMap (fun q => put8 q.1.val ++ put8 q.2.code)).length = 2 * pairs.length := by
  induction pairs with
  | nil => rfl
  | cons q qs ih =>
    rw [List.flatMap_cons, List.length_append, ih, List.length_cons]
    simp [put8]
    omega

/-- ITEM_RETIRED fills its unused pairs with zeros (Table 9-20). -/
theorem Notice.frame_itemRetired (tag : Nat) (lane : Fin 8) (decision : FinalDecision) (est : Bool)
    (pairs : List (Fin 16 × TargetOutcome)) : (Notice.itemRetired tag lane decision est pairs).frame =
      ⟨0x43, 0, put16 tag ++ put8 lane.val ++ put8 decision.code ++ [if est = true then 1 else 0] ++
        put8 pairs.length ++ pairs.flatMap (fun q => put8 q.1.val ++ put8 q.2.code) ++
        List.replicate (8 - 2 * pairs.length) 0⟩ := by
  have size : (put16 tag ++ put8 lane.val ++ put8 decision.code ++ putBool est ++ put8 pairs.length ++
      pairs.flatMap (fun q => put8 q.1.val ++ put8 q.2.code)).length = 6 + 2 * pairs.length := by
    rw [List.length_append, length_retiredPairs]
    rfl
  have padded : ∀ p : List Byte, p.length = 6 + 2 * pairs.length →
      padTo 14 p = p ++ List.replicate (8 - 2 * pairs.length) 0 := fun p hp => by
    rw [padTo, hp, show 14 - (6 + 2 * pairs.length) = 8 - 2 * pairs.length by omega]
  exact congrArg (Frame.mk 0x43 0) (padded _ size)

/-- LINE_STATE carries the line state with its halt cause (Table 9-21). -/
theorem Notice.frame_lineState (line : LineState) (records actions : Nat) :
    (Notice.lineState line records actions).frame =
    ⟨0x45, 0, ([2] : List Byte) ++ (match line with
      | .config => [1, 0] | .armed => [2, 0] | .halted .loss => [3, 1] | .halted .limit => [3, 3]
      | .halted .gap => [3, 4] | .halted .silence => [3, 5]) ++ put8 records ++ put8 actions⟩ := by
  cases line with
  | config => rfl
  | armed => rfl
  | halted why => cases why <;> rfl

/-- Every notice's bytes are those of its table (Tables 9-20 and 9-21, R184). -/
theorem noticeLayouts : NoticeLayouts where
  entered := fun _ _ _ _ _ _ _ _ _ => rfl
  discarded := fun _ _ => ⟨rfl, rfl, rfl⟩
  defaulted := fun _ eject admitted => by cases eject <;> rfl
  retired := fun tag lane decision est pairs _ => Notice.frame_itemRetired tag lane decision est pairs
  valveEvent := fun _ _ _ => rfl
  restart := ⟨rfl, rfl, rfl⟩
  lineState := Notice.frame_lineState
  source := fun cause => by cases cause <;> rfl
  sourceOther := ⟨rfl, rfl, rfl, rfl⟩
  rail := ⟨rfl, rfl⟩
  motion := fun _ => ⟨rfl, rfl, rfl⟩
  fault := fun flag => by cases flag <;> rfl
  outcomes := ⟨rfl, rfl⟩

/-! ### TXD (R162) -/

/-- In a chain of blocks of one length, the place of an element gives its block and its place there. -/
theorem getElem?_flatMap_of_length {α β : Type} (f : α → List β) (n : Nat) (hn : 0 < n) (hf : ∀ x, (f x).length = n) :
    ∀ (xs : List α) (i : Nat), (xs.flatMap f)[i]? = xs[i / n]?.bind (fun x => (f x)[i % n]?)
  | [], i => by simp
  | x :: xs, i => by
    rw [List.flatMap_cons]
    by_cases first : i < n
    · rw [List.getElem?_append_left (by rw [hf]; exact first), Nat.div_eq_of_lt first, Nat.mod_eq_of_lt first]
      rfl
    · have behind : n ≤ i := Nat.not_lt.mp first
      have step : i / n = (i - n) / n + 1 := by rw [Nat.div_eq_sub_div hn behind]
      have place : i % n = (i - n) % n := Nat.mod_eq_sub_mod behind
      rw [List.getElem?_append_right (by rw [hf]; exact behind), hf, getElem?_flatMap_of_length f n hn hf xs (i - n),
        step, place, List.getElem?_cons_succ]

/-- A character is sent as start bit, eight data bits, parity bit, stop bit: its bits by their places (R162). -/
theorem Parity.getElem?_character_data (p : Parity) (b : Byte) (i : Nat) (h : i < 8) :
    (p.character b)[i + 1]? = some (bitLevel (b.getLsbD i)) := by
  rw [Parity.character, List.append_assoc, List.cons_append, List.getElem?_cons_succ,
    List.getElem?_append_left (by simpa using h)]
  simp [h]

/-- The last bit of a character is the stop bit (R162). -/
theorem Parity.getElem?_character_stop (p : Parity) (b : Byte) : (p.character b)[p.charBits - 1]? = some .high := by
  cases p <;> rfl

/-- The tenth bit of a character with parity is its parity bit (R162). -/
theorem Parity.getElem?_character_parity (p : Parity) (b : Byte) (x : Level) (h : p.bit b = some x) :
    (p.character b)[9]? = some x := by
  rw [Parity.character, h]
  rfl

/-- Every character has at least one bit. -/
theorem Parity.charBits_pos (p : Parity) : 0 < p.charBits := by cases p <;> decide

/-- The number of bits in the words of the statement (R162). -/
theorem Parity.charBits_eq (p : Parity) : p.charBits = if p = .none then 10 else 11 := by cases p <;> rfl

/-- While the transmitter sends, TXD has the bit that the elapsed time has come to (R162). -/
theorem Link.txd_sending (l : Link) (bytes : List Byte) (a : AfterFrame) (e : Nat) (h : l.tx = .sending bytes a e)
    (b : Byte) (hb : bytes[e * l.settings.baud.rate / 1000000 / l.settings.parity.charBits]? = some b) :
    l.txd = ((l.settings.parity.character b)[e * l.settings.baud.rate / 1000000 % l.settings.parity.charBits]?).getD
      .high := by
  unfold Link.txd
  rw [h]
  dsimp only
  rw [List.getD_eq_getElem?_getD,
    getElem?_flatMap_of_length _ _ l.settings.parity.charBits_pos l.settings.parity.length_character, hb]
  rfl

/-- Behind the last stop bit TXD is high (R162). -/
theorem Link.txd_sent (l : Link) (bytes : List Byte) (a : AfterFrame) (e : Nat) (h : l.tx = .sending bytes a e)
    (sent : bytes.length * l.settings.parity.charBits ≤ e * l.settings.baud.rate / 1000000) : l.txd = .high := by
  have short : bytes.length ≤ e * l.settings.baud.rate / 1000000 / l.settings.parity.charBits :=
    (Nat.le_div_iff_mul_le l.settings.parity.charBits_pos).mpr sent
  unfold Link.txd
  rw [h]
  dsimp only
  rw [List.getD_eq_getElem?_getD,
    getElem?_flatMap_of_length _ _ l.settings.parity.charBits_pos l.settings.parity.length_character,
    List.getElem?_eq_none short]
  rfl

/-- A level that stands for a bit is high exactly when the bit is set. -/
theorem bitLevel_eq_high (x : Bool) : bitLevel x = .high ↔ x = true := by cases x <;> simp [bitLevel]

/-- The bits of TXD (R162). -/
theorem Link.txdLevels (l : Link) : TxdLevels l where
  free := fun h => by simp [Link.txd, h]
  sending := fun bytes a e h => by
    rw [← Parity.charBits_eq]
    refine ⟨l.txd_sent bytes a e h, fun b hb => ?_⟩
    have sent := l.txd_sending bytes a e h b hb
    refine ⟨fun first => ?_, fun i hi data => ?_, fun last => ?_, fun parity heven => ?_, fun parity hodd => ?_⟩
    · rw [sent, first]
      cases l.settings.parity <;> rfl
    · rw [sent, data, Parity.getElem?_character_data _ b i hi]
      exact bitLevel_eq_high _
    · rw [sent, last, Parity.getElem?_character_stop]
      rfl
    · have bit := Parity.getElem?_character_parity l.settings.parity b (bitLevel (highBits b % 2 == 1))
        (by rw [heven]; rfl)
      rw [sent, parity, bit, Option.getD_some]
      simp only [bitLevel_eq_high, beq_iff_eq]
      change (highBits b + _) % 2 = 0
      split <;> omega
    · have bit := Parity.getElem?_character_parity l.settings.parity b (bitLevel (highBits b % 2 == 0))
        (by rw [hodd]; rfl)
      rw [sent, parity, bit, Option.getD_some]
      simp only [bitLevel_eq_high, beq_iff_eq]
      change (highBits b + _) % 2 = 1
      split <;> omega

/-- Settles O12: what the arbiter takes and what the end of a frame brings, with the bytes of every frame. -/
theorem transmitterTakesReplyThenNotice : Obligations.TransmitterTakesReplyThenNotice := by
  have start : ∀ s, exec .transmitStart s = .next s.transmitBegins := fun _ => rfl
  have finish : ∀ s, exec .transmitEnd s = .next s.transmitEnds := fun _ => rfl
  refine ⟨fun s r hfree hslot held => ?_, fun s r f fs hfree hslot hqueue hhold => ?_, exec_transmitStart_notice,
    fun s hfree hslot hnotices => ?_, fun s b a e h => ?_, fun s b e h => ?_, fun s b l e h => ?_, fun _ => rfl,
    noticeLayouts, Link.txdLevels, fun _ _ _ => rfl⟩
  · rw [start, s.transmitBegins_reply r hfree hslot]
    rcases held with empty | hold
    · exact congrArg Host.Outcome.next (State.executeOldest_nil _ empty)
    · exact congrArg Host.Outcome.next (State.executeOldest_waits _ (.inr hold))
  · rw [start, s.transmitBegins_reply r hfree hslot]
    exact congrArg Host.Outcome.next (State.executeOldest_cons _ f fs hqueue rfl hhold)
  · rw [start, s.transmitBegins_nothing hfree hslot hnotices]
  · rw [start, s.transmitBegins_busy b a e h]
  · rw [finish, s.transmitEnds_nothing b e h]
  · rw [finish, s.transmitEnds_settings b l e h]

/-! ### Characters received (R162, R164 to R166) -/

/-- A character has an error exactly when the receiver finds one (R162). -/
theorem hasError_iff (s : State) (b : Byte) (bit : Level) (stop : StopBit) :
    HasError s b bit stop ↔ s.link.charError b bit stop = true := by
  have mismatch : s.link.settings.parity.mismatch b bit = true ↔
      (s.link.settings.parity = .even ∧ (highBits b + if bit = .high then 1 else 0) % 2 = 1) ∨
      (s.link.settings.parity = .odd ∧ (highBits b + if bit = .high then 1 else 0) % 2 = 0) := by
    cases s.link.settings.parity with
    | none => simp [Parity.mismatch, Parity.bit]
    | even =>
      cases bit with
      | low => simp [Parity.mismatch, Parity.bit, bitLevel]
      | high =>
        simp [Parity.mismatch, Parity.bit, bitLevel]
        omega
    | odd =>
      cases bit with
      | low => simp [Parity.mismatch, Parity.bit, bitLevel]
      | high =>
        simp [Parity.mismatch, Parity.bit, bitLevel]
        omega
  unfold HasError Link.charError
  rw [Bool.or_eq_true, bne_iff_ne, mismatch, or_comm]
  rfl

/-- RXD behind a stop bit, and the receiver at its new state. -/
theorem afterCharacter_eq (s : State) (stop : StopBit) (rx : Receiver) : AfterCharacter s stop rx =
    { s with pins := { s.pins with rxd := lineBehind stop } }.putRx rx := by
  unfold AfterCharacter lineBehind State.putRx
  cases stop with
  | high => rfl
  | low held => cases held <;> rfl

section receive
variable (s : State) (b : Byte) (bit : Level) (stop : StopBit)

/-- QUIET ignores a character and starts its idle timer again (R166). -/
theorem State.receive_quiet (i : Nat) (hrx : s.link.rx = .quiet i) :
    s.receive b bit stop = AfterCharacter s stop (.quiet 0) := by
  simp [State.receive, hrx, afterCharacter_eq]

/-- A start mark without error begins a frame (R164). -/
theorem State.receive_start (hrx : s.link.rx = .hunt) (good : ¬ HasError s 0xA5 bit stop) :
    s.receive 0xA5 bit stop = AfterCharacter s stop (.receive [] 0) := by
  rw [hasError_iff, Bool.not_eq_true] at good
  simp only [State.receive, hrx, afterCharacter_eq, good]
  rfl

/-- Any other character in HUNT is ignored (R164). -/
theorem State.receive_hunt (hrx : s.link.rx = .hunt) (h : b ≠ 0xA5 ∨ HasError s b bit stop) :
    s.receive b bit stop = AfterCharacter s stop .hunt := by
  have ignored : (!s.link.charError b bit stop && b == startMark) = false := by
    rw [Bool.and_eq_false_iff]
    rcases h with h | h
    · exact .inr (beq_eq_false_iff_ne.mpr h)
    · exact .inl (by rw [(hasError_iff s b bit stop).mp h]; rfl)
  have same : State.putRx { s with pins := { s.pins with rxd := lineBehind stop } } .hunt =
      { s with pins := { s.pins with rxd := lineBehind stop } } := by
    unfold State.putRx
    dsimp only
    rw [← hrx]
  simp only [State.receive, hrx, ignored, afterCharacter_eq, same]
  rfl

/-- A character with an error ends the frame in progress (R166). -/
theorem State.receive_error (got : List Byte) (g : Nat) (hrx : s.link.rx = .receive got g)
    (bad : HasError s b bit stop) :
    s.receive b bit stop = (AfterCharacter s stop (.quiet 0)).occur .linkError := by
  rw [hasError_iff] at bad
  simp only [State.receive, hrx, afterCharacter_eq, bad]
  rfl

/-- A character without error is collected with those before it (R165). -/
theorem State.receive_collect (got : List Byte) (g : Nat) (hrx : s.link.rx = .receive got g)
    (good : ¬ HasError s b bit stop) : s.receive b bit stop =
      State.collect { s with pins := { s.pins with rxd := lineBehind stop } } (got ++ [b]) := by
  rw [hasError_iff, Bool.not_eq_true] at good
  simp only [State.receive, hrx, good]
  rfl

/-- A frame that is not complete yet waits for more (R165). -/
theorem State.receive_more (got : List Byte) (g : Nat) (hrx : s.link.rx = .receive got g)
    (good : ¬ HasError s b bit stop) (more : judge (got ++ [b]) = .more) :
    s.receive b bit stop = AfterCharacter s stop (.receive (got ++ [b]) 0) := by
  rw [s.receive_collect b bit stop got g hrx good, State.collect, more, afterCharacter_eq]

/-- A frame found wrong is dropped (R165, R166). -/
theorem State.receive_wrong (got : List Byte) (g : Nat) (hrx : s.link.rx = .receive got g)
    (good : ¬ HasError s b bit stop) (wrong : judge (got ++ [b]) = .wrong) :
    s.receive b bit stop = (AfterCharacter s stop (.quiet 0)).occur .linkError := by
  rw [s.receive_collect b bit stop got g hrx good, State.collect, wrong, afterCharacter_eq]
  rfl

/-- A complete frame is offered to the receive queue (R165, R167). -/
theorem State.receive_complete (got : List Byte) (g : Nat) (f : Frame) (hrx : s.link.rx = .receive got g)
    (good : ¬ HasError s b bit stop) (complete : judge (got ++ [b]) = .complete f) :
    s.receive b bit stop = (AfterCharacter s stop .hunt).acceptFrame f := by
  rw [s.receive_collect b bit stop got g hrx good, State.collect, complete, afterCharacter_eq]

end receive

/-! ### What the bytes amount to (R165, R180) -/

/-- A length in range with too few bytes behind it waits for more (R165). -/
theorem judge_more (len : Byte) (body : List Byte) (low : 2 ≤ len.toNat) (high : len.toNat ≤ 202)
    (short : body.length < len.toNat + 2) : judge (len :: body) = .more := by
  have range : badLength len.toNat = false := by simp [badLength]; omega
  simp [judge, range, short]

/-- A length out of range is wrong at once (R165). -/
theorem judge_badLength (len : Byte) (body : List Byte) (h : len.toNat < 2 ∨ 202 < len.toNat) :
    judge (len :: body) = .wrong := by
  have range : badLength len.toNat = true := by simpa [badLength] using h
  simp [judge, range]

/-- A two-byte field behind a list of bytes. -/
theorem half_append (xs : List Byte) (c1 c2 : Byte) : half (xs ++ [c1, c2]) xs.length = c1 ++ c2 := by
  simp [half, byteAt]

/-- With all bytes there the CRC decides (R165, R180). -/
theorem judge_whole (len c1 c2 : Byte) (covered : List Byte) (low : 2 ≤ len.toNat) (high : len.toNat ≤ 202)
    (whole : covered.length = len.toNat) : judge (len :: (covered ++ [c1, c2])) =
      if crc16 (len :: covered) = c1 ++ c2 then .complete (frameOf len.toNat (covered ++ [c1, c2])) else .wrong := by
  have range : badLength len.toNat = false := by simp [badLength]; omega
  have long : ¬ (covered ++ [c1, c2]).length < len.toNat + 2 := by simp [whole]
  have taken : (covered ++ [c1, c2]).take len.toNat = covered := by rw [← whole]; simp
  have check : half (covered ++ [c1, c2]) len.toNat = c1 ++ c2 := by rw [← whole, half_append]
  unfold judge
  simp only [range, Bool.false_eq_true, if_false, long, taken, check]

/-- A frame that fits has a length byte in range. -/
theorem frameLength_of_fits (f : Frame) (h : f.fits = true) :
    (BitVec.ofNat 8 (2 + f.payload.length)).toNat = 2 + f.payload.length ∧ f.payload.length ≤ 200 := by
  have bound : f.payload.length ≤ 200 := of_decide_eq_true h
  exact ⟨by simp; omega, bound⟩

/-- A two-byte field put together again from its bytes. -/
theorem extract_append_extract (h : Half) : h.extractLsb' 8 8 ++ h.extractLsb' 0 8 = h := by
  have back := half_putHalf h
  rwa [half] at back

/-- The bytes of a whole frame behind its start mark amount to that frame (R165, R180). -/
theorem judge_frame (f : Frame) (h : f.fits = true) :
    judge (f.covered ++ putHalf (crc16 f.covered)) = .complete f := by
  obtain ⟨len, bound⟩ := frameLength_of_fits f h
  have whole := judge_whole (BitVec.ofNat 8 (2 + f.payload.length)) ((crc16 f.covered).extractLsb' 8 8)
    ((crc16 f.covered).extractLsb' 0 8) (f.kind :: f.tag :: f.payload) (by omega) (by omega) (by simp; omega)
  rw [extract_append_extract, if_pos (by rfl), len] at whole
  refine Eq.trans ?_ (whole.trans ?_)
  · rfl
  · simp [frameOf]

/-! ### The obligations on the receiver -/

/-- Settles O13: one law of `receive` for each receiver state. -/
theorem charactersBuildAFrame : Obligations.CharactersBuildAFrame := by
  refine ⟨fun s b bit stop i hrx => ?_, fun s bit stop hrx good => ?_, fun s b bit stop hrx bad => ?_,
    fun s b len body bit stop g got hrx good bytes low high short => ?_⟩
  · exact congrArg Host.Outcome.next (s.receive_quiet b bit stop i hrx)
  · exact congrArg Host.Outcome.next (s.receive_start bit stop hrx good)
  · exact congrArg Host.Outcome.next (s.receive_hunt b bit stop hrx bad)
  · have more : judge (got ++ [b]) = .more := by rw [bytes]; exact judge_more len body low high short
    rw [← bytes]
    exact congrArg Host.Outcome.next (s.receive_more b bit stop got g hrx good more)

/-- Settles O14: a character in error, a length out of range and a CRC that does not match each drop the frame. -/
theorem frameErrorDropsTheFrame : Obligations.FrameErrorDropsTheFrame := by
  refine ⟨fun s b bit stop got g hrx bad => ?_, fun s b bit stop g hrx good range => ?_,
    fun s len c1 c2 covered bit stop g hrx good low high whole mismatch => ?_⟩
  · exact congrArg Host.Outcome.next (s.receive_error b bit stop got g hrx bad)
  · exact congrArg Host.Outcome.next (s.receive_wrong b bit stop [] g hrx good (judge_badLength b [] range))
  · have wrong : judge (len :: covered ++ [c1] ++ [c2]) = .wrong := by
      have decided := judge_whole len c1 c2 covered low high whole
      rw [if_neg mismatch] at decided
      rw [← decided]
      simp
    exact congrArg Host.Outcome.next (s.receive_wrong c2 bit stop _ g hrx good wrong)

/-- Settles O15: the bytes collected are those of the frame, so the CRC agrees. -/
theorem frameCompleteAcceptsTheFrame : Obligations.FrameCompleteAcceptsTheFrame := by
  intro s f got last g fits bytes hrx
  have collected : got ++ [last] = f.covered ++ putHalf (crc16 f.covered) := (List.cons.inj bytes).2.symm
  have complete : judge (got ++ [last]) = .complete f := by rw [collected]; exact judge_frame f fits
  have good : ¬ HasError s last (s.link.settings.parity.levelFor last) .high := by
    rw [hasError_iff, s.link.charError_levelFor]
    decide
  exact congrArg Host.Outcome.next (s.receive_complete last _ .high got g f hrx good complete)

/-- A part of a frame's bytes behind the start mark, and more to come, is not judged yet (R165). -/
theorem judge_part (f : Frame) (h : f.fits = true) (got rest : List Byte) (b : Byte)
    (parts : f.covered ++ putHalf (crc16 f.covered) = got ++ rest) (hrest : rest ≠ []) (hgot : got = b :: got.tail) :
    judge got = .more := by
  obtain ⟨len, bound⟩ := frameLength_of_fits f h
  have size := congrArg List.length parts
  have remaining : 0 < rest.length := List.length_pos_iff.mpr hrest
  have first : b = BitVec.ofNat 8 (2 + f.payload.length) := by
    rw [hgot] at parts
    exact (List.cons.inj parts).1.symm
  have short : got.tail.length < 2 + f.payload.length + 2 := by
    have whole : got.length = got.tail.length + 1 := congrArg List.length hgot
    rw [List.length_append, List.length_append, whole] at size
    simp only [Frame.covered, putHalf, List.length_cons, List.length_nil] at size
    omega
  rw [hgot, first]
  exact judge_more _ _ (by omega) (by omega) (by omega)

/-- The settings in force stay while characters come, so an error is the same at each. -/
theorem hasError_afterCharacter (s : State) (rx : Receiver) (b : Byte) (bit : Level) (stop : StopBit) :
    HasError (AfterCharacter s .high rx) b bit stop ↔ HasError s b bit stop := Iff.rfl

/-- Characters without error, one after the other, are collected until the frame is whole (R165). -/
theorem receive_rest (s : State) (f : Frame) (bit : Byte → Level) (fits : f.fits = true)
    (good : ∀ b, ¬ HasError s b (bit b) .high) : ∀ (rest got : List Byte), rest ≠ [] →
      f.covered ++ putHalf (crc16 f.covered) = got ++ rest →
      rest.foldl (fun t b => t.receive b (bit b) .high) (AfterCharacter s .high (.receive got 0)) =
        (AfterCharacter s .high .hunt).acceptFrame f
  | [], _, hne, _ => absurd rfl hne
  | [b], got, _, parts => by
    have complete : judge (got ++ [b]) = .complete f := by rw [← parts]; exact judge_frame f fits
    exact State.receive_complete (AfterCharacter s .high (.receive got 0)) b (bit b) .high got 0 f rfl (good b) complete
  | b :: b' :: rest, got, _, parts => by
    have parts' : f.covered ++ putHalf (crc16 f.covered) = (got ++ [b]) ++ (b' :: rest) := by simpa using parts
    obtain ⟨x, hx⟩ : ∃ x, got ++ [b] = x :: (got ++ [b]).tail := by
      cases got with
      | nil => exact ⟨b, rfl⟩
      | cons x xs => exact ⟨x, rfl⟩
    have more : judge (got ++ [b]) = .more := judge_part f fits _ _ x parts' (by simp) hx
    have collected := State.receive_more (AfterCharacter s .high (.receive got 0)) b (bit b) .high got 0 rfl (good b)
      more
    rw [List.foldl_cons, collected]
    exact receive_rest s f bit fits good (b' :: rest) (got ++ [b]) (by simp) parts'

set_option maxRecDepth 20000 in
/-- The CRC of the nine digits (R180). -/
theorem crc16_digits : crc16 [0x31, 0x32, 0x33, 0x34, 0x35, 0x36, 0x37, 0x38, 0x39] = 0x29B1 := by
  decide

/-- Settles O16: the start mark begins the frame, and each further character is collected until the CRC decides. -/
theorem frameReceivedByteByByteIsAccepted : Obligations.FrameReceivedByteByByteIsAccepted := by
  refine ⟨fun s f bit fits hrx good => ?_, fun _ _ _ _ => rfl, crc16_digits⟩
  rw [Frame.bytes, List.foldl_cons]
  have begun : s.receive startMark (bit startMark) .high = AfterCharacter s .high (.receive [] 0) :=
    s.receive_start (bit startMark) .high hrx (good startMark)
  rw [begun]
  exact receive_rest s f bit fits good _ [] (by simp [Frame.covered]) rfl

end Sys2Proof.Machine
end

section
/-! PROOFS. Outcomes written over several valves (R63), the cuts of a motion or rail change (R129, R130) and the purge of a
queue (R111), in the words of the statements. -/

namespace Sys2Proof.Machine

/-! ### Outcomes (R63) -/

/-- Targets that take no outcome stay as they are. -/
theorem Table.withOutcomes_none (t : Table) : t.withOutcomes (fun _ _ => none) = t := by
  have same : ∀ r : ItemRecord, ({ r with progress := r.progress.mapTargets (fun ts =>
      ts.mapIdx (fun _ x => { x with outcome := (none : Option TargetOutcome).getD x.outcome })) } : ItemRecord) = r := by
    rintro ⟨_, _, _, _, _, _, _, progress⟩
    have targets : ∀ ts : List RecordTarget,
        ts.mapIdx (fun _ x => { x with outcome := (none : Option TargetOutcome).getD x.outcome }) = ts := fun ts => by
      simp [List.mapIdx_eq_zipIdx_map, Option.getD]
    cases progress <;> simp only [Progress.mapTargets, targets]
  unfold Table.withOutcomes
  simp only [same, List.map_id']

/-- No contribution serves no target. -/
theorem served_nil (o : TargetOutcome) : served o [] = fun _ _ => none := rfl

/-- Contributions written one list after the other are written as one list (R63). -/
theorem Table.withOutcomes_served_append (t : Table) (o : TargetOutcome) (cs ds : List Contribution) :
    (t.withOutcomes (served o cs)).withOutcomes (served o ds) = t.withOutcomes (served o (cs ++ ds)) := by
  rw [Table.withOutcomes_withOutcomes]
  congr 1
  funext tag i
  simp only [served, names, List.any_append]
  have either : ∀ x y : Bool, (if y = true then some o else none).or (if x = true then some o else none) =
      if (x || y) = true then some o else none := by
    intro x y
    cases x <;> cases y <;> rfl
  exact either _ _

/-- Writing one outcome for contributions is the change of the targets they serve, also where there are none (R63). -/
theorem State.writeOutcomes_eq_withOutcomes (s : State) (o : TargetOutcome) (cs : List Contribution) :
    s.writeOutcomes o cs = { s with table := s.table.withOutcomes (served o cs) } := by
  cases cs with
  | nil => rw [State.writeOutcomes_nil, served_nil, Table.withOutcomes_none]
  | cons c cs => exact State.writeOutcomes_served o (c :: cs) s (by simp)

/-- The table after outcomes written. -/
theorem State.table_writeOutcomes_eq (s : State) (o : TargetOutcome) (cs : List Contribution) :
    (s.writeOutcomes o cs).table = s.table.withOutcomes (served o cs) := by
  rw [State.writeOutcomes_eq_withOutcomes]

/-- What each valve's turn writes into the records of its own queue is written together (R63). -/
theorem State.table_foldl_outcomes {op : State → Fin 16 → State} {o : TargetOutcome}
    {given : State → Fin 16 → List Contribution}
    (own : ∀ s v, (op s v).table = s.table.withOutcomes (served o (given s v)))
    (other : ∀ s v w, v ≠ w → given (op s v) w = given s w) :
    ∀ (vs : List (Fin 16)) (s : State), vs.Nodup →
      (vs.foldl op s).table = s.table.withOutcomes (served o (vs.flatMap (given s)))
  | [], s, _ => by rw [List.flatMap_nil, served_nil, Table.withOutcomes_none]; rfl
  | v :: vs, s, h => by
    obtain ⟨new, rest⟩ := List.nodup_cons.mp h
    have same : vs.flatMap (given (op s v)) = vs.flatMap (given s) :=
      flatMap_congr fun w hw => other s v w fun e => new (e ▸ hw)
    rw [List.foldl_cons, State.table_foldl_outcomes own other vs (op s v) rest, own, same,
      Table.withOutcomes_served_append, List.flatMap_cons]

/-- What only chosen elements give. -/
theorem flatMap_filter_eq {α β : Type} (p : α → Bool) (f : α → List β) (xs : List α) :
    (xs.filter p).flatMap f = xs.flatMap (fun x => if p x then f x else []) := by
  induction xs with
  | nil => rfl
  | cons x xs ih =>
    rw [List.filter_cons, List.flatMap_cons, ← ih]
    cases p x <;> rfl

/-! ### Cuts (R107, R129, R130) -/

/-- The cut of a valve that a condition names: released, its OPEN action cut. -/
def State.cutWhere (cond : Valve → Bool) (s : State) (v : Fin 16) : State :=
  if cond (s.valve v) then (s.releaseValve v).cutOpenAction v else s

/-- A motion cut is the cut of a carrying valve (R129). -/
theorem State.motionCut_eq : State.motionCut = State.cutWhere Valve.carrying := rfl

/-- A rail cut is the cut of an active valve (R130). -/
theorem State.railCut_eq : State.railCut = State.cutWhere Valve.isActive := rfl

section cuts
variable (cond : Valve → Bool) (s : State)

/-- A cut writes the valve, its queue and the outcomes of its OPEN action, and nothing else. -/
theorem State.cutWhere_eq (v : Fin 16) : ∃ t qs vs, s.cutWhere cond v =
    { s with table := t, sched := { s.sched with queues := qs }, drive := { s.drive with valves := vs } } := by
  unfold State.cutWhere State.cutOpenAction
  split
  · refine ⟨_, _, _, (State.writeOutcomes_eq_withOutcomes _ _ _).trans rfl⟩
  · exact ⟨_, _, _, rfl⟩

/-- Valve and queue after the cut of a valve. -/
theorem State.cutWhere_own (v : Fin 16) :
    ((s.cutWhere cond v).valve v, (s.cutWhere cond v).queue v) = if cond (s.valve v) = true then
      ((s.valve v).release, (s.queue v).filter (fun a => a.state == .queued)) else (s.valve v, s.queue v) := by
  unfold State.cutWhere
  split
  · have queue : (s.releaseValve v).queue v = s.queue v := State.queue_of_sched (by simp) v
    rw [State.valve_cutOpenAction, State.valve_releaseValve, if_pos rfl, State.queue_cutOpenAction, if_pos rfl, queue]
  · rfl

/-- The cut of a valve leaves every other valve with its queue. -/
theorem State.cutWhere_other {v w : Fin 16} (h : v ≠ w) :
    ((s.cutWhere cond v).valve w, (s.cutWhere cond v).queue w) = (s.valve w, s.queue w) := by
  unfold State.cutWhere
  split
  · have queue : (s.releaseValve v).queue w = s.queue w := State.queue_of_sched (by simp) w
    rw [State.valve_cutOpenAction, State.valve_releaseValve, if_neg h, State.queue_cutOpenAction, if_neg h, queue]
  · rfl

/-- The contributions that the cut of a valve cuts. -/
def State.cutContribs (v : Fin 16) : List Contribution := if cond (s.valve v) then openContribs (s.queue v) else []

/-- The outcomes that the cut of a valve writes. -/
theorem State.table_cutWhere (v : Fin 16) :
    (s.cutWhere cond v).table = s.table.withOutcomes (served .cut (s.cutContribs cond v)) := by
  unfold State.cutWhere State.cutContribs
  split
  · have queue : (s.releaseValve v).queue v = s.queue v := State.queue_of_sched (by simp) v
    rw [State.cutOpenAction, State.table_writeOutcomes_eq, queue]
    rfl
  · rw [served_nil, Table.withOutcomes_none]

/-- Cuts of all valves write valves, queues and outcomes, and nothing else. -/
theorem State.foldl_cutWhere_eq : ∃ t qs vs, allValves.foldl (State.cutWhere cond) s =
    { s with table := t, sched := { s.sched with queues := qs }, drive := { s.drive with valves := vs } } :=
  foldl_keeps (P := fun u : State => ∃ t qs vs, u =
      { s with table := t, sched := { s.sched with queues := qs }, drive := { s.drive with valves := vs } })
    (fun u v ⟨t, qs, vs, h⟩ => by
      obtain ⟨t', qs', vs', h'⟩ := u.cutWhere_eq cond v
      exact ⟨t', qs', vs', by rw [h', h]⟩)
    allValves s ⟨_, _, _, rfl⟩

/-- Each valve and its queue after the cuts of all valves. -/
theorem State.valve_queue_foldl_cutWhere (v : Fin 16) :
    ((allValves.foldl (State.cutWhere cond) s).valve v, (allValves.foldl (State.cutWhere cond) s).queue v) =
      if cond (s.valve v) = true then ((s.valve v).release, (s.queue v).filter (fun a => a.state == .queued))
      else (s.valve v, s.queue v) :=
  foldl_allValves (get := fun t w => (State.valve t w, State.queue t w)) (f := State.cutWhere cond)
    (g := fun _ x => if cond x.1 = true then (x.1.release, x.2.filter (fun a => a.state == .queued)) else x)
    (fun t v => t.cutWhere_own cond v) (fun t _ _ h => t.cutWhere_other cond h) s v

/-- A valve that the condition names, after the cuts of all valves. -/
theorem State.foldl_cutWhere_cut (v : Fin 16) (h : cond (s.valve v) = true) :
    (allValves.foldl (State.cutWhere cond) s).valve v = (s.valve v).release ∧
    (allValves.foldl (State.cutWhere cond) s).queue v = (s.queue v).filter (fun a => a.state == .queued) := by
  have each := s.valve_queue_foldl_cutWhere cond v
  rwa [if_pos h, Prod.mk.injEq] at each

/-- Any other valve, after the cuts of all valves. -/
theorem State.foldl_cutWhere_kept (v : Fin 16) (h : cond (s.valve v) = false) :
    (allValves.foldl (State.cutWhere cond) s).valve v = s.valve v ∧
    (allValves.foldl (State.cutWhere cond) s).queue v = s.queue v := by
  have each := s.valve_queue_foldl_cutWhere cond v
  rwa [if_neg (by rw [h]; decide), Prod.mk.injEq] at each

/-- The outcomes that the cuts of all valves write (R107). -/
theorem State.table_foldl_cutWhere : (allValves.foldl (State.cutWhere cond) s).table =
    s.table.withOutcomes (served .cut
      ((allValves.filter (fun v => cond (s.valve v))).flatMap (fun v => openContribs (s.queue v)))) := by
  have written := State.table_foldl_outcomes (op := State.cutWhere cond) (o := .cut)
    (given := fun s v => s.cutContribs cond v) (fun t v => t.table_cutWhere cond v)
    (fun t v w h => by
      obtain ⟨valve, queue⟩ := Prod.mk.inj (t.cutWhere_other cond h)
      unfold State.cutContribs
      rw [valve, queue]) allValves s nodup_allValves
  rw [written, flatMap_filter_eq]
  rfl

end cuts

/-! ### Purges (R111) -/

/-- A purge writes the outcomes of both kinds of action, and empties the queue (R111). -/
theorem State.purgeQueue_eq (s : State) (v : Fin 16) : s.purgeQueue v =
    { s.putQueue v [] with table := s.table.withOutcomes (purged (s.queue v)) } := by
  have both : (fun tag i => (served .missed (queuedContribs (s.queue v)) tag i).or
      (served .cut (openContribs (s.queue v)) tag i)) = purged (s.queue v) := by
    funext tag i
    simp only [served, purged]
    by_cases queued : names (queuedContribs (s.queue v)) tag i = true <;> simp [queued]
  unfold State.purgeQueue
  rw [State.writeOutcomes_eq_withOutcomes, State.writeOutcomes_eq_withOutcomes]
  dsimp only
  rw [Table.withOutcomes_withOutcomes, both]
  rfl

end Sys2Proof.Machine
end

section
/-! PROOFS. The commands and requests of the Valve Drive and of the Rail Monitor (chapter 6, R151 to R153). -/

namespace Sys2Proof.Machine

/-! ### Numbers of valves (R114, R123, R133, R134, R136) -/

/-- A number from 0 to 15 names its valve. -/
theorem valveOf?_val (v : Fin 16) : valveOf? v.val = some v := dif_pos v.isLt

/-- A number from 16 on names none. -/
theorem valveOf?_none (n : Nat) (h : 16 ≤ n) : valveOf? n = none := dif_neg (Nat.not_lt.mpr h)

/-- A one-byte field reads back as it was sent. -/
theorem num8_put8 (n : Nat) (rest : List Byte) (h : n < 256) : num8 (put8 n ++ rest) 0 = n := by
  simp [num8, byteAt, put8]
  omega

/-- A valve number sent reads back. -/
theorem valveOf?_put8 (v : Fin 16) (rest : List Byte) : valveOf? (num8 (put8 v.val ++ rest) 0) = some v := by
  rw [num8_put8 _ _ (by omega), valveOf?_val]

/-! ### SET_HOLD and the duty (R121 to R123) -/

/-- SET_HOLD for a valve and a duty in range writes the pending duty (R123). -/
theorem runSetHold_accepted (s : State) (v : Fin 16) (d : Byte) (h : d.toNat ≤ 64) :
    runSetHold [BitVec.ofNat 8 v.val, d] s = ⟨s.putValve v { s.valve v with pendingDuty := d.toNat }, [0], .nothing⟩ := by
  have named : valveOf? (num8 [BitVec.ofNat 8 v.val, d] 0) = some v := valveOf?_put8 v [d]
  have duty : num8 [BitVec.ofNat 8 v.val, d] 1 = d.toNat := rfl
  unfold runSetHold
  rw [named]
  dsimp only
  rw [duty, if_neg (Nat.not_lt.mpr h)]
  rfl

/-- SET_HOLD with a number or a duty out of range is refused (R123). -/
theorem runSetHold_refused (s : State) (n d : Byte) (h : 16 ≤ n.toNat ∨ 64 < d.toNat) :
    runSetHold [n, d] s = ⟨s, [3], .nothing⟩ := by
  have duty : num8 [n, d] 1 = d.toNat := rfl
  unfold runSetHold
  split
  · rfl
  · rename_i v named
    have low : n.toNat < 16 := by
      refine Classical.byContradiction fun high => ?_
      exact absurd (named.symm.trans (valveOf?_none n.toNat (Nat.not_lt.mp high))) (by simp)
    rw [duty, if_pos (h.resolve_left (by omega))]
    rfl

/-- What `holding` says, in the words of the statement. -/
theorem Valve.holding_eq (x : Valve) : x.holding = match x.state with
    | .hold => true | .test .hold _ => true
    | .pullIn => false | .test .pull _ => false | .idle => false | .disabled => false := rfl

/-- A valve stands in HOLD, or in the HOLD phase of TEST. -/
theorem Valve.holding_iff (x : Valve) : x.holding = true ↔ x.state = .hold ∨ ∃ d, x.state = .test .hold d := by
  unfold Valve.holding
  split <;> simp_all

/-- At the start of its own period a valve's place is 0 (R121). -/
theorem Drive.sincePeriod_offset (d : Drive) (v : Fin 16) (h : d.base = periodOffset d.period v) :
    d.sincePeriod v = 0 := by
  rw [Drive.sincePeriod, h, Nat.add_sub_cancel_left, Nat.mod_self]

/-- Writing a valve twice is writing it once. -/
@[simp] theorem State.putValve_putValve (s : State) (v : Fin 16) (x y : Valve) :
    (s.putValve v x).putValve v y = s.putValve v y := by
  simp [State.putValve]

/-- A period start puts the base at the valve's offset and makes the pending duty current; a holding output is on for
the first part of the period (R121 to R123). -/
theorem State.periodStart_eq (s : State) (v : Fin 16) : s.periodStart v =
    { s with drive := { s.drive with base := periodOffset s.drive.period v } }.putValve v
      { s.valve v with
        duty := (s.valve v).pendingDuty,
        out := if (s.valve v).holding then Decidable.decide (0 < onTime s.drive.period (s.valve v).pendingDuty)
          else (s.valve v).out } := by
  unfold State.periodStart State.refreshHold State.takePending
  dsimp only
  rw [State.valve_putValve_self]
  have valve : State.valve { s with drive := { s.drive with base := periodOffset s.drive.period v } } v = s.valve v :=
    rfl
  have place : Drive.sincePeriod { s.drive with base := periodOffset s.drive.period v } v = 0 :=
    Drive.sincePeriod_offset _ v rfl
  have holds : Valve.holding { s.valve v with duty := (s.valve v).pendingDuty } = (s.valve v).holding := rfl
  rw [valve, holds]
  cases (s.valve v).holding with
  | false => rfl
  | true =>
    rw [if_pos rfl, State.putValve_putValve, State.holdOut, State.valve_putValve_self]
    change _ = State.putValve _ _ { s.valve v with
      duty := (s.valve v).pendingDuty, out := Decidable.decide (0 < onTime s.drive.period (s.valve v).pendingDuty) }
    rw [← place]
    rfl

/-- Settles O49: the request writes the pending duty alone, and the period start takes it at the valve's own offset. -/
theorem setHoldWaitsForThePeriodStart : Obligations.SetHoldWaitsForThePeriodStart := by
  refine ⟨fun s tag d v hready hd => ?_, fun s tag n d hready bad => ?_, fun s v _ => ?_⟩
  · have answered := exec_known (.setHold tag [BitVec.ofNat 8 v.val, d]) .setHold tag _ s rfl rfl hready
    rwa [handRequest, runSetHold_accepted s v d hd] at answered
  · have answered := exec_known (.setHold tag [n, d]) .setHold tag _ s rfl rfl hready
    rwa [handRequest, runSetHold_refused s n d bad] at answered
  · exact congrArg Host.Outcome.next (s.periodStart_eq v)

/-! ### The output in HOLD (R119, R122, R137) -/

/-- The end of the on time, in the words of the statement (R122). -/
theorem State.onTimeEnd_off (s : State) (v : Fin 16) (holds : (s.valve v).holding = true) (on : (s.valve v).out = true)
    (short : onTime s.drive.period (s.valve v).duty < s.drive.period) : s.onTimeEnd v =
      { s with drive := { s.drive with
        base := (periodOffset s.drive.period v + onTime s.drive.period (s.valve v).duty) % s.drive.period } }.putValve v
          { s.valve v with out := false } := by
  simp [State.onTimeEnd, holds, on, short]

/-- Without a holding output that is on for part of its period only, the end of the on time does nothing (R122). -/
theorem State.onTimeEnd_none (s : State) (v : Fin 16) (h : (s.valve v).holding = false ∨ (s.valve v).out = false ∨
    s.drive.period ≤ onTime s.drive.period (s.valve v).duty) : s.onTimeEnd v = s := by
  have off : ((s.valve v).holding && (s.valve v).out &&
      Decidable.decide (onTime s.drive.period (s.valve v).duty < s.drive.period)) = false := by
    rcases h with h | h | h
    · simp [h]
    · simp [h]
    · simp [Nat.not_lt.mpr h]
  unfold State.onTimeEnd
  dsimp only
  rw [off]
  rfl

/-- Settles O50: each command acts in the states in which its phase runs. -/
theorem holdOutputFollowsTheDuty : Obligations.HoldOutputFollowsTheDuty := by
  intro s v
  have expiry : exec (.pullInTimerExpiry v) s = .next (s.pullInExpiry v) := rfl
  have onEnd : exec (.pwmOnTimeEnd v) s = .next (s.onTimeEnd v) := rfl
  refine ⟨fun hx => ?_, fun d hx => ?_, fun hp ht => ?_, fun hold on short => ?_, fun none => ?_⟩
  · rw [expiry, State.pullInExpiry, hx]
    rfl
  · rw [expiry, State.pullInExpiry, hx]
    rfl
  · rw [expiry, State.pullInExpiry]
    split
    · rename_i hx; exact absurd hx hp
    · rename_i d hx; exact absurd hx (ht d)
    · rfl
  · exact onEnd.trans (congrArg Host.Outcome.next
      (s.onTimeEnd_off v ((s.valve v).holding_iff.mpr hold) on short))
  · rw [onEnd, s.onTimeEnd_none v]
    rcases none with ⟨hh, ht⟩ | off | long
    · left
      rw [Bool.eq_false_iff, ne_eq, (s.valve v).holding_iff]
      rintro (h | ⟨d, h⟩)
      · exact hh h
      · exact ht d h
    · exact .inr (.inl off)
    · exact .inr (.inr long)

/-! ### Test fire (R136, R137) -/

/-- A two-byte number behind one byte reads back. -/
theorem num16_putHalf (n : Byte) (d : Half) : num16 ([n] ++ putHalf d) 1 = d.toNat := by
  have field : half ([n] ++ putHalf d) 1 = d := half_putHalf d
  rw [num16, field]

/-- A test begins in its PULL phase, or with a pull-in time of 0 in its HOLD phase (R137). -/
theorem State.startTest_pull (s : State) (v : Fin 16) (d : Nat) (h : 0 < (s.valve v).cfg.pullIn) : s.startTest v d =
    s.putValve v { s.valve v with state := .test .pull d, active := 0, pull := 0, out := true } := by
  simp [State.startTest, h]

/-- A test begins in its PULL phase, or with a pull-in time of 0 in its HOLD phase (R137). -/
theorem State.startTest_hold (s : State) (v : Fin 16) (d : Nat) (h : (s.valve v).cfg.pullIn = 0) : s.startTest v d =
    s.putValve v { s.valve v with state := .test .hold d, active := 0, pull := 0, out := s.holdOut v } := by
  simp [State.startTest, h]

/-- The checks of TEST_FIRE on a valve, in their order (R136). -/
def State.testChecked (s : State) (v : Fin 16) (d : Nat) : Answer :=
  if d = 0 ∨ (s.valve v).cfg.maxOpen < d then s.refuse .badValue
  else if (s.valve v).cfg.mode = .off then s.refuse .badValue
  else if s.drive.rail = .low then s.refuse .state
  else if (s.valve v).state ≠ .idle ∨ ¬ (s.queue v).isEmpty then s.refuse .busy
  else (s.startTest v d).accept

/-- TEST_FIRE in HALTED is refused before anything else (R136). -/
theorem runTestFire_halted (s : State) (p : List Byte) (why : HaltCause) (h : s.ctrl.line = .halted why) :
    runTestFire p s = s.refuse .state := by
  simp [runTestFire, h]

/-- TEST_FIRE for a number that names no valve is refused (R136). -/
theorem runTestFire_noValve (s : State) (p : List Byte) (line : ∀ why, s.ctrl.line ≠ .halted why)
    (h : valveOf? (num8 p 0) = none) : runTestFire p s = s.refuse .badValue := by
  unfold runTestFire
  split
  · rename_i why hl; exact absurd hl (line why)
  · rw [h]

/-- TEST_FIRE outside HALTED for a valve goes through the checks on it (R136). -/
theorem runTestFire_valve (s : State) (p : List Byte) (v : Fin 16) (line : ∀ why, s.ctrl.line ≠ .halted why)
    (h : valveOf? (num8 p 0) = some v) : runTestFire p s = s.testChecked v (num16 p 1) := by
  unfold runTestFire
  split
  · rename_i why hl; exact absurd hl (line why)
  · rw [h]
    rfl

/-- TEST_FIRE that finds the link ready is answered with what its owner gives. -/
theorem exec_testFire (s : State) (tag n : Byte) (d : Half) (hready : s.linkReady) (a : Answer)
    (h : runTestFire ([n] ++ putHalf d) s = a) :
    exec (.testFire tag ([n] ++ putHalf d)) s = .next (a.state.withReply 0xA9 tag a.body a.after) := by
  have answered := exec_known (.testFire tag ([n] ++ putHalf d)) .testFire tag _ s rfl rfl hready
  rwa [handRequest, h] at answered

/-- The checks on a valve that passes them all (R136). -/
theorem State.testChecked_accepted (s : State) (v : Fin 16) (d : Nat) (hd : d ≠ 0) (hm : d ≤ (s.valve v).cfg.maxOpen)
    (mode : (s.valve v).cfg.mode ≠ .off) (rail : s.drive.rail = .normal) (idle : (s.valve v).state = .idle)
    (empty : s.queue v = []) : s.testChecked v d = (s.startTest v d).accept := by
  simp [State.testChecked, hd, Nat.not_lt.mpr hm, mode, rail, idle, empty]

/-- Settles O51: the checks in their order, then the entry into TEST by the pull-in time. -/
theorem testFireChecksThenStartsATest : Obligations.TestFireChecksThenStartsATest := by
  refine ⟨fun s tag n d hready => ⟨fun why hline => ?_, fun line => ⟨fun high => ?_, fun v named => ?_⟩⟩,
    fun s v ph d hx => ?_, fun s v none => ?_⟩
  · exact exec_testFire s tag n d hready _ (runTestFire_halted s _ why hline)
  · exact exec_testFire s tag n d hready _ (runTestFire_noValve s _ line (valveOf?_none _ high))
  · have number : valveOf? (num8 ([n] ++ putHalf d) 0) = some v := by
      have first : num8 ([n] ++ putHalf d) 0 = v.val := named
      rw [first, valveOf?_val]
    have checked : runTestFire ([n] ++ putHalf d) s = s.testChecked v d.toNat := by
      rw [runTestFire_valve s _ v line number, num16_putHalf]
    have zero : d.toNat = 0 ↔ d = 0 := by rw [← BitVec.toNat_inj]; rfl
    have inRange : d ≠ 0 → d.toNat ≤ (s.valve v).cfg.maxOpen →
        ¬ (d.toNat = 0 ∨ (s.valve v).cfg.maxOpen < d.toNat) := fun hd hm => by
      rw [zero, not_or, Nat.not_lt]
      exact ⟨hd, hm⟩
    refine ⟨fun range => ?_, fun hd hm => ⟨fun off => ?_, fun mode => ⟨fun low => ?_, fun normal => ⟨fun busy => ?_,
      fun idle empty => ⟨fun pull => ?_, fun pull => ?_⟩⟩⟩⟩⟩
    · refine exec_testFire s tag n d hready (s.refuse .badValue) (checked.trans ?_)
      rw [State.testChecked, if_pos (by rwa [zero])]
    · refine exec_testFire s tag n d hready (s.refuse .badValue) (checked.trans ?_)
      rw [State.testChecked, if_neg (inRange hd hm), if_pos off]
    · refine exec_testFire s tag n d hready (s.refuse .state) (checked.trans ?_)
      rw [State.testChecked, if_neg (inRange hd hm), if_neg mode, if_pos low]
    · refine exec_testFire s tag n d hready (s.refuse .busy) (checked.trans ?_)
      rw [State.testChecked, if_neg (inRange hd hm), if_neg mode, if_neg (by rw [normal]; decide),
        if_pos (by simpa using busy)]
    · have accepted := s.testChecked_accepted v d.toNat (by rwa [ne_eq, zero]) hm mode normal idle empty
      rw [s.startTest_pull v _ pull] at accepted
      exact exec_testFire s tag n d hready _ (checked.trans accepted)
    · have accepted := s.testChecked_accepted v d.toNat (by rwa [ne_eq, zero]) hm mode normal idle empty
      rw [s.startTest_hold v _ pull] at accepted
      exact exec_testFire s tag n d hready _ (checked.trans accepted)
  · have ended : exec (.testEnd v) s = .next (s.testEndOf v) := rfl
    rw [ended, State.testEndOf, hx]
    rfl
  · have ended : exec (.testEnd v) s = .next (s.testEndOf v) := rfl
    rw [ended, State.testEndOf]
    split
    · rename_i ph d hx; exact absurd hx (none ph d)
    · rfl

/-! ### Enabling, disabling, overtime (R126, R127, R133, R134) -/

/-- A disabled valve with a purged queue, in the words of the statements (R111, R126, R133). -/
theorem State.purged_eq (s : State) (v : Fin 16) (x : Valve) :
    let u := (s.putValve v x).purgeQueue v
    u = { s with table := s.table.withOutcomes (purged (s.queue v)),
                 sched := { s.sched with queues := u.sched.queues },
                 drive := { s.drive with valves := u.drive.valves } } ∧
    u.valve v = x ∧ u.queue v = [] ∧ ∀ w : Fin 16, w ≠ v → u.valve w = s.valve w ∧ u.queue w = s.queue w := by
  refine ⟨?_, ?_, ?_, fun w other => ⟨?_, ?_⟩⟩
  · rw [State.purgeQueue_eq]
    rfl
  · rw [State.valve_purgeQueue, State.valve_putValve_self]
  · rw [State.queue_purgeQueue, if_pos rfl]
  · rw [State.valve_purgeQueue, State.valve_putValve, if_neg (Ne.symm other)]
  · rw [State.queue_purgeQueue, if_neg (Ne.symm other), State.queue_putValve]

/-- ENABLE_VALVE answers the state before it (R134). -/
theorem runEnableValve_eq (s : State) (v : Fin 16) : runEnableValve (put8 v.val) s =
    ⟨if (s.valve v).state = .disabled then s.putValve v { s.valve v with state := .idle, active := 0 } else s,
      [0] ++ put8 (s.valve v).state.code, .nothing⟩ := by
  have named : valveOf? (num8 (put8 v.val) 0) = some v := valveOf?_put8 v []
  unfold runEnableValve
  rw [named]
  rfl

/-- DISABLE_VALVE on a DISABLED valve cuts and misses nothing (R133). -/
theorem runDisableValve_disabled (s : State) (v : Fin 16) (h : (s.valve v).state = .disabled) :
    runDisableValve (put8 v.val) s = ⟨s, [0, 0, 0, 0], .nothing⟩ := by
  have named : valveOf? (num8 (put8 v.val) 0) = some v := valveOf?_put8 v []
  unfold runDisableValve
  rw [named]
  dsimp only
  rw [if_pos h]
  rfl

/-- DISABLE_VALVE on any other valve disables it and purges its queue (R133). -/
theorem runDisableValve_enabled (s : State) (v : Fin 16) (h : (s.valve v).state ≠ .disabled) :
    runDisableValve (put8 v.val) s = ⟨(s.putValve v (s.valve v).disable).purgeQueue v,
      [0] ++ put8 (openContribs (s.queue v)).length ++ put16 (queuedContribs (s.queue v)).length, .nothing⟩ := by
  have named : valveOf? (num8 (put8 v.val) 0) = some v := valveOf?_put8 v []
  have disabled : s.disableValve v = (s.putValve v (s.valve v).disable).purgeQueue v := by
    rw [State.disableValve, if_neg h]
  unfold runDisableValve
  rw [named]
  dsimp only
  rw [if_neg h, disabled]
  rfl

/-- Settles O52: the reply counts what the queue held before the purge. -/
theorem enableAndDisableAValve : Obligations.EnableAndDisableAValve := by
  have disable : ∀ (s : State) (tag : Byte) (v : Fin 16) (a : Answer), s.linkReady →
      runDisableValve (put8 v.val) s = a →
      exec (.disableValve tag (put8 v.val)) s = .next (a.state.withReply 0xAB tag a.body a.after) :=
    fun s tag v a hready h => by
      have answered := exec_known (.disableValve tag (put8 v.val)) .disableValve tag _ s rfl rfl hready
      rwa [handRequest, h] at answered
  refine ⟨fun s tag v hready => ?_, fun s tag v hready hx => ?_, fun s tag v hready hx => ?_,
    fun s tag n hready high => ⟨?_, ?_⟩⟩
  · have answered := exec_known (.enableValve tag (put8 v.val)) .enableValve tag _ s rfl rfl hready
    rwa [handRequest, runEnableValve_eq] at answered
  · exact disable s tag v _ hready (runDisableValve_disabled s v hx)
  · exact ⟨_, disable s tag v _ hready (runDisableValve_enabled s v hx), s.purged_eq v _⟩
  · have none : valveOf? (num8 [n] 0) = none := valveOf?_none _ high
    have answered := exec_known (.enableValve tag [n]) .enableValve tag _ s rfl rfl hready
    rw [handRequest, runEnableValve, none] at answered
    exact answered
  · have none : valveOf? (num8 [n] 0) = none := valveOf?_none _ high
    have answered := exec_known (.disableValve tag [n]) .disableValve tag _ s rfl rfl hready
    rw [handRequest, runDisableValve, none] at answered
    exact answered

/-- A valve carries its OPEN head in PULL_IN and in HOLD. -/
theorem Valve.carrying_iff (x : Valve) : x.carrying = true ↔ x.state = .pullIn ∨ x.state = .hold := by
  unfold Valve.carrying
  split <;> simp_all

/-- Settles O53: the valve is disabled at its limit and its queue purged before the flag and the notice. -/
theorem overtimeDisablesAndPurges : Obligations.OvertimeDisablesAndPurges := by
  have acts : ∀ s v, exec (.overtime v) s = .next (s.overtimeOf v) := fun _ _ => rfl
  refine ⟨fun s v carrying => ?_, fun s v hp hh => ?_⟩
  · refine ⟨_, ?_, s.purged_eq v { (s.valve v).disable with active := (s.valve v).cfg.maxOpen * 1000 }⟩
    rw [acts, State.overtimeOf, if_pos ((s.valve v).carrying_iff.mpr carrying)]
  · have idle : ¬ (s.valve v).carrying = true := by
      rw [(s.valve v).carrying_iff]
      rintro (h | h)
      · exact hp h
      · exact hh h
    rw [acts, State.overtimeOf, if_neg idle]

/-! ### The rail (R107, R130, R152, R153) -/

/-- The part with the rail LOW and every active valve cut, before the flag and the notice of it (R130, R152). -/
def State.railCutAll (s : State) : State :=
  allValves.foldl (State.cutWhere Valve.isActive) { s with rail := ⟨.low, 0⟩, drive := { s.drive with rail := .low } }

/-- A fall of the rail cuts, then offers RAIL_LOW and LINE_EVENT RAIL (R152). -/
theorem State.railFalls_eq (s : State) : s.railFalls = (s.railCutAll.occur .railLow).offer (.rail .low) := rfl

/-- Settles O54: the cut of the active valves stands before the flag, and the flag before the notice. -/
theorem railEntriesCutAndRelease : Obligations.RailEntriesCutAndRelease := by
  refine ⟨fun s normal => ?_, fun s low => ?_, fun s low => ?_, fun s normal => ?_⟩
  · have fall : exec .railLowEntry s = .next (State.railFalls { s with pins := { s.pins with vsns := .below } }) := by
      change Host.Outcome.next _ = _
      rw [normal]
    refine ⟨State.railCutAll { s with pins := { s.pins with vsns := .below } }, fall, ?_, ?_, ?_, ?_⟩
    · obtain ⟨t, qs, vs, cut⟩ := State.foldl_cutWhere_eq Valve.isActive
        { s with rail := ⟨.low, 0⟩, drive := { s.drive with rail := .low }, pins := { s.pins with vsns := .below } }
      unfold State.railCutAll
      dsimp only
      rw [cut]
    · exact fun v active => State.foldl_cutWhere_cut Valve.isActive _ v active
    · exact fun v idle => State.foldl_cutWhere_kept Valve.isActive _ v idle
    · exact State.table_foldl_cutWhere Valve.isActive _
  · change Host.Outcome.next _ = _
    rw [low]
    rfl
  · change Host.Outcome.next _ = _
    rw [low]
  · change Host.Outcome.next _ = _
    rw [normal]

end Sys2Proof.Machine
end

section
/-! PROOFS. The fields of the requests (R181, Tables 9-5, 9-8 and 9-9), and on them SET_LINE's checks (R3) and SET_VALVE
(R114, R115). -/

namespace Sys2Proof.Machine

/-! ### Numeric fields read back (R181) -/

/-- A two-byte number reads back as it was sent. -/
theorem num16_put16 (n : Nat) (h : n < 65536) : num16 (put16 n) 0 = n := by
  rw [num16, put16, half_putHalf, BitVec.toNat_ofNat, Nat.mod_eq_of_lt h]

/-- A four-byte number reads back as it was sent. -/
theorem num32_put32 (n : Nat) (h : n < 4294967296) : num32 (put32 n) 0 = n := by
  rw [num32, put32, word_putWord, BitVec.toNat_ofNat, Nat.mod_eq_of_lt h]

/-- A one-byte number reads back as it was sent. -/
theorem num8_put8_self (n : Nat) (h : n < 256) : num8 (put8 n) 0 = n := num8_put8 n [] h

/-- A field depends on the bytes it reads alone. -/
theorem num16_congr {p q : List Byte} {i j : Nat} (h0 : byteAt p i = byteAt q j)
    (h1 : byteAt p (i + 1) = byteAt q (j + 1)) : num16 p i = num16 q j := by
  rw [num16, num16, half, half, h0, h1]

/-- A field depends on the bytes it reads alone. -/
theorem num32_congr {p q : List Byte} {i j : Nat} (h0 : byteAt p i = byteAt q j)
    (h1 : byteAt p (i + 1) = byteAt q (j + 1)) (h2 : byteAt p (i + 2) = byteAt q (j + 2))
    (h3 : byteAt p (i + 3) = byteAt q (j + 3)) : num32 p i = num32 q j := by
  rw [num32, num32, word, word, half, half, half, half, h0, h1, h2, h3]

/-! ### Enumerated fields (Table 9-5) -/

/-- A listed encoder mode is from 1 to 3. -/
theorem EncMode.range_of_ofCode? {n : Nat} {m : EncMode} (h : EncMode.ofCode? n = some m) : 1 ≤ n ∧ n ≤ 3 := by
  unfold EncMode.ofCode? at h
  split at h <;> first | omega | simp at h

/-- A listed RUN polarity is 1 or 2. -/
theorem Polarity.range_of_ofCode? {n : Nat} {m : Polarity} (h : Polarity.ofCode? n = some m) : 1 ≤ n ∧ n ≤ 2 := by
  unfold Polarity.ofCode? at h
  split at h <;> first | omega | simp at h

/-- A listed output mode is from 1 to 3. -/
theorem OutputMode.range_of_ofCode? {n : Nat} {m : OutputMode} (h : OutputMode.ofCode? n = some m) :
    1 ≤ n ∧ n ≤ 3 := by
  unfold OutputMode.ofCode? at h
  split at h <;> first | omega | simp at h

/-- An encoder mode reads back as it was sent. -/
theorem EncMode.ofCode?_code (m : EncMode) : EncMode.ofCode? m.code.toNat = some m := by cases m <;> rfl

/-- A RUN polarity reads back as it was sent. -/
theorem Polarity.ofCode?_code (m : Polarity) : Polarity.ofCode? m.code.toNat = some m := by cases m <;> rfl

/-- An output mode reads back as it was sent. -/
theorem OutputMode.ofCode?_code (m : OutputMode) : OutputMode.ofCode? m.code = some m := by cases m <;> rfl

/-! ### SET_LINE (R3) -/

/-- SET_LINE with a field out of the ranges of Table 1-2 is not read (R3). -/
theorem parseLine_eq_none (p : List Byte) (h : num8 p 0 = 0 ∨ 3 < num8 p 0 ∨ num8 p 1 = 0 ∨ 2 < num8 p 1 ∨
    num8 p 2 = 0 ∨ num16 p 3 = 0 ∨ 1000 < num16 p 3 ∨ num16 p 5 = 0 ∨ 1000 < num16 p 5 ∨ num16 p 7 < 10 ∨
    5000 < num16 p 7 ∨ num32 p 9 = 0 ∨ 200000 < num32 p 9 ∨ num16 p 13 < 20 ∨ 1000 < num16 p 13) :
    parseLine p = none := by
  unfold parseLine
  split
  · rename_i mode pol hmode hpol
    have modeRange := EncMode.range_of_ofCode? hmode
    have polRange := Polarity.range_of_ofCode? hpol
    rw [if_neg (by omega)]
  · rfl

/-- SET_LINE built from parameters in range is read back as those parameters (R3, Table 9-8). -/
theorem parseLine_payload (q : LineParams) (h : q.wf) : parseLine q.payload = some q := by
  obtain ⟨reversal, loss, stop, limit, speed, pwm⟩ := h
  have mode : num8 q.payload 0 = q.mode.code.toNat := rfl
  have pol : num8 q.payload 1 = q.polarity.code.toNat := rfl
  have f2 : num8 q.payload 2 = q.reversal := num8_put8_self q.reversal (by omega)
  have f3 : num16 q.payload 3 = q.lossTime := (num16_congr rfl rfl).trans (num16_put16 q.lossTime (by omega))
  have f5 : num16 q.payload 5 = q.stopTime := (num16_congr rfl rfl).trans (num16_put16 q.stopTime (by omega))
  have f7 : num16 q.payload 7 = q.estimateLimit :=
    (num16_congr rfl rfl).trans (num16_put16 q.estimateLimit (by omega))
  have f9 : num32 q.payload 9 = q.timedSpeed :=
    (num32_congr rfl rfl rfl rfl).trans (num32_put32 q.timedSpeed (by omega))
  have f13 : num16 q.payload 13 = q.pwmPeriod := (num16_congr rfl rfl).trans (num16_put16 q.pwmPeriod (by omega))
  unfold parseLine
  rw [mode, pol, f2, f3, f5, f7, f9, f13, EncMode.ofCode?_code, Polarity.ofCode?_code]
  dsimp only
  rw [if_pos (by omega)]

/-- SET_LINE outside CONFIG is refused, whatever it carries (R3). -/
theorem runSetLine_notConfig (s : State) (p : List Byte) (h : s.ctrl.line ≠ .config) :
    runSetLine p s = s.refuse .state := by
  rw [runSetLine, if_pos h]

/-- SET_LINE in CONFIG that is not read is refused (R3). -/
theorem runSetLine_unread (s : State) (p : List Byte) (h : s.ctrl.line = .config) (hp : parseLine p = none) :
    runSetLine p s = s.refuse .badValue := by
  rw [runSetLine, if_neg (not_not_intro h), hp]

/-- SET_LINE in CONFIG with its parameters in range is applied (R3 to R5). -/
theorem runSetLine_payload (s : State) (q : LineParams) (h : s.ctrl.line = .config) (hq : q.wf) :
    runSetLine q.payload s = (s.applyLine q).accept := by
  rw [runSetLine, if_neg (not_not_intro h), parseLine_payload q hq]

/-- A byte that is not 0 as a number is not 0. -/
theorem toNat_eq_zero_iff {n : Nat} (b : BitVec n) : b.toNat = 0 ↔ b = 0 := by
  rw [← BitVec.toNat_inj]
  simp

/-- Settles O21: the line state is looked at first, then every field's range; the payload's fields read back. -/
theorem setLineChecksStateThenRanges : Obligations.SetLineChecksStateThenRanges := by
  refine ⟨fun s tag p hready hsize hline => ?_,
    fun s tag mode pol rev loss stop est speed pwm hready hline bad => ?_, parseLine_payload⟩
  · have answered := exec_known (.setLine tag p) .setLine tag p s rfl hsize hready
    rw [handRequest, runSetLine_notConfig s p hline] at answered
    exact answered
  · let p := [mode, pol, rev] ++ putHalf loss ++ putHalf stop ++ putHalf est ++ putWord speed ++ putHalf pwm
    have unread : parseLine p = none := by
      have f3 : num16 p 3 = loss.toNat := (num16_congr rfl rfl).trans (congrArg BitVec.toNat (half_putHalf loss))
      have f5 : num16 p 5 = stop.toNat := (num16_congr rfl rfl).trans (congrArg BitVec.toNat (half_putHalf stop))
      have f7 : num16 p 7 = est.toNat := (num16_congr rfl rfl).trans (congrArg BitVec.toNat (half_putHalf est))
      have f9 : num32 p 9 = speed.toNat :=
        (num32_congr rfl rfl rfl rfl).trans (congrArg BitVec.toNat (word_putWord speed))
      have f13 : num16 p 13 = pwm.toNat := (num16_congr rfl rfl).trans (congrArg BitVec.toNat (half_putHalf pwm))
      have f0 : num8 p 0 = mode.toNat := rfl
      have f1 : num8 p 1 = pol.toNat := rfl
      have f2 : num8 p 2 = rev.toNat := rfl
      refine parseLine_eq_none p ?_
      rw [f0, f1, f2, f3, f5, f7, f9, f13]
      simpa only [toNat_eq_zero_iff] using bad
    have answered := exec_known (.setLine tag p) .setLine tag p s rfl rfl hready
    rw [handRequest, runSetLine_unread s p hline unread] at answered
    exact answered

/-! ### SET_VALVE (R114, R115) -/

/-- When a valve may be configured (R114). -/
theorem State.configurable_iff (s : State) (v : Fin 16) : s.configurable v = true ↔ s.ctrl.line = .config ∨
    (((s.valve v).state = .idle ∨ (s.valve v).state = .disabled) ∧ s.queue v = []) := by
  simp [State.configurable]

/-- SET_VALVE's parameters with one out of the ranges of Table 6-2 are not read (R114). -/
theorem parseValve_eq_none (p : List Byte) (h : num8 p 1 = 0 ∨ 3 < num8 p 1 ∨ 1048575 < num32 p 2 ∨
    50000 < num16 p 6 ∨ 50000 < num16 p 8 ∨ 50000 < num16 p 10 ∨ 64 < num8 p 12 ∨ num16 p 15 = 0 ∨
    2000 < num16 p 15) : parseValve p = none := by
  unfold parseValve
  split
  · rename_i mode hmode
    have modeRange := OutputMode.range_of_ofCode? hmode
    rw [if_neg (by omega)]
  · rfl

/-- SET_VALVE's parameters in range are read back (R114, Table 9-9). -/
theorem parseValve_payload (q : ValveParams) (v : Fin 16) (h : q.wf) : parseValve (q.payload v) = some q := by
  obtain ⟨nozzle, openBy, closeBy, pullIn, duty, gap, low, high⟩ := h
  have f1 : num8 (q.payload v) 1 = q.mode.code := num8_put8_self q.mode.code (by cases q.mode <;> decide)
  have f2 : num32 (q.payload v) 2 = q.nozzleOffset :=
    (num32_congr rfl rfl rfl rfl).trans (num32_put32 q.nozzleOffset (by omega))
  have f6 : num16 (q.payload v) 6 = q.openLatency := (num16_congr rfl rfl).trans (num16_put16 q.openLatency (by omega))
  have f8 : num16 (q.payload v) 8 = q.closeLatency :=
    (num16_congr rfl rfl).trans (num16_put16 q.closeLatency (by omega))
  have f10 : num16 (q.payload v) 10 = q.pullIn := (num16_congr rfl rfl).trans (num16_put16 q.pullIn (by omega))
  have f12 : num8 (q.payload v) 12 = q.holdDuty := num8_put8_self q.holdDuty (by omega)
  have f13 : num16 (q.payload v) 13 = q.minGap := (num16_congr rfl rfl).trans (num16_put16 q.minGap (by omega))
  have f15 : num16 (q.payload v) 15 = q.maxOpen := (num16_congr rfl rfl).trans (num16_put16 q.maxOpen (by omega))
  unfold parseValve
  rw [f1, f2, f6, f8, f10, f12, f13, f15, OutputMode.ofCode?_code]
  dsimp only
  rw [if_pos (by omega)]

/-- The parameters of a valve that is not in TEST are written with both duties (R115). -/
theorem State.applyValve_eq (s : State) (v : Fin 16) (q : ValveParams) (h : ∀ ph d, (s.valve v).state ≠ .test ph d) :
    s.applyValve v q =
      s.putValve v { s.valve v with cfg := q, duty := q.holdDuty, pendingDuty := q.holdDuty } := by
  unfold State.applyValve
  dsimp only
  split
  · rename_i ph d hx; exact absurd hx (h ph d)
  · rfl

/-- A test ends before the parameters of its valve are written (R115). -/
theorem State.applyValve_test (s : State) (v : Fin 16) (q : ValveParams) (ph : TestPhase) (d : Nat)
    (h : (s.valve v).state = .test ph d) : s.applyValve v q =
      s.putValve v { s.valve v with
        cfg := q, duty := q.holdDuty, pendingDuty := q.holdDuty, state := .idle, out := false, pull := 0 } := by
  unfold State.applyValve
  dsimp only
  rw [h]
  rfl

/-- SET_VALVE for a valve that may be configured answers by what is read (R114). -/
theorem runSetValve_configurable (s : State) (p : List Byte) (v : Fin 16) (named : num8 p 0 = v.val)
    (free : s.configurable v = true) : runSetValve p s = match parseValve p with
      | some q => (s.applyValve v q).accept
      | none => s.refuse .badValue := by
  unfold runSetValve
  rw [named, valveOf?_val]
  dsimp only
  rw [free]
  rfl

/-- Settles O48: the valve number first, then whether the valve is free, then the ranges. -/
theorem setValveTakesAllParametersOrNone : Obligations.SetValveTakesAllParametersOrNone := by
  have answer : ∀ (s : State) (tag : Byte) (p : List Byte) (a : Answer), s.linkReady → p.length = 17 →
      runSetValve p s = a → exec (.setValve tag p) s = .next (a.state.withReply 0x92 tag a.body a.after) :=
    fun s tag p a hready hsize h => by
      have answered := exec_known (.setValve tag p) .setValve tag p s rfl hsize hready
      rwa [handRequest, h] at answered
  refine ⟨fun s tag p hready hsize high => ?_, fun s tag p v hready hsize named line busy => ?_,
    fun s tag p v hready hsize named free bad => ?_,
    fun s tag q v hready hq free => ⟨fun noTest => ?_, fun ph d test => ?_⟩⟩
  · exact answer s tag p (s.refuse .badValue) hready hsize (by rw [runSetValve, valveOf?_none _ high])
  · refine answer s tag p (s.refuse .busy) hready hsize ?_
    have taken : s.configurable v = false := by
      rw [Bool.eq_false_iff, ne_eq, s.configurable_iff]
      rintro (config | ⟨idle | disabled, empty⟩)
      · exact line config
      · exact busy.elim (fun h => h.1 idle) (fun h => h empty)
      · exact busy.elim (fun h => h.2 disabled) (fun h => h empty)
    unfold runSetValve
    rw [named, valveOf?_val]
    dsimp only
    rw [taken]
    rfl
  · refine answer s tag p (s.refuse .badValue) hready hsize ?_
    rw [runSetValve_configurable s p v named ((s.configurable_iff v).mpr free), parseValve_eq_none p bad]
  · have named : num8 (q.payload v) 0 = v.val := num8_put8_self v.val (by omega)
    have read := runSetValve_configurable s _ v named ((s.configurable_iff v).mpr free)
    rw [parseValve_payload q v hq] at read
    dsimp only at read
    rw [s.applyValve_eq v q noTest] at read
    exact answer s tag _ _ hready rfl read
  · have named : num8 (q.payload v) 0 = v.val := num8_put8_self v.val (by omega)
    have read := runSetValve_configurable s _ v named ((s.configurable_iff v).mpr free)
    rw [parseValve_payload q v hq] at read
    dsimp only at read
    rw [s.applyValve_test v q ph d test] at read
    exact answer s tag _ _ hready rfl read

end Sys2Proof.Machine
end

section
/-! PROOFS. Target places (R71, R76, Table 9-10), VERDICT (R71 to R81) and the checks of SET_LANE (R29). -/

namespace Sys2Proof.Machine

/-! ### Bytes of a list of places -/

/-- Bytes behind others are read from their own place. -/
theorem byteAt_append_right (xs ys : List Byte) (i : Nat) : byteAt (xs ++ ys) (xs.length + i) = byteAt ys i := by
  rw [byteAt, byteAt, List.getD_eq_getElem?_getD, List.getD_eq_getElem?_getD,
    List.getElem?_append_right (by omega), Nat.add_sub_cancel_left]

/-- Zeros behind a list of bytes read as what is not there. -/
theorem byteAt_padTo (n : Nat) (p : List Byte) (i : Nat) : byteAt (padTo n p) i = byteAt p i := by
  unfold byteAt padTo
  rw [List.getD_eq_getElem?_getD, List.getD_eq_getElem?_getD]
  by_cases inside : i < p.length
  · rw [List.getElem?_append_left inside]
  · rw [List.getElem?_append_right (by omega), List.getElem?_eq_none (l := p) (by omega)]
    by_cases zeros : i - p.length < n - p.length
    · simp [zeros]
    · rw [List.getElem?_eq_none (by simpa using zeros)]

/-- A target takes six bytes (Table 9-10). -/
theorem Target.length_bytes (t : Target) : t.bytes.length = 6 := by
  unfold Target.bytes TargetEnd.bytes
  cases t.stop <;> rfl

/-- Each byte of a used place of a target list is the target's. -/
theorem byteAt_targetPlaces (head : List Byte) (ts : List Target) (k j : Nat) (t : Target) (hk : ts[k]? = some t)
    (hj : j < 6) : byteAt (head ++ targetPlacesBytes ts) (head.length + 6 * k + j) = byteAt t.bytes j := by
  have block : (6 * k + j) / 6 = k := by omega
  have place : (6 * k + j) % 6 = j := by omega
  rw [Nat.add_assoc, byteAt_append_right, targetPlacesBytes, byteAt_padTo, byteAt, List.getD_eq_getElem?_getD,
    getElem?_flatMap_of_length _ 6 (by decide) Target.length_bytes, block, place, hk, byteAt,
    List.getD_eq_getElem?_getD]
  rfl

/-- A place depends on its six bytes alone. -/
theorem targetPlaceAt_congr {p q : List Byte} {i : Nat} (h : ∀ j, j < 6 → byteAt p (i + j) = byteAt q j) :
    targetPlaceAt p i = targetPlaceAt q 0 := by
  have first := h 0 (by decide)
  have fourth := h 3 (by decide)
  unfold targetPlaceAt num8 half
  simp only [Nat.add_assoc, Nat.zero_add, Nat.add_zero] at *
  rw [first, h 1 (by decide), h 2 (by decide), fourth, h 4 (by decide), h 5 (by decide)]

/-- The used places of a list of targets are the targets' own (R71). -/
theorem targetPlaces_bytes (head : List Byte) (ts : List Target) :
    targetPlaces (head ++ targetPlacesBytes ts) head.length ts.length =
      ts.map (fun t => targetPlaceAt t.bytes 0) := by
  apply List.ext_getElem?
  intro k
  rw [targetPlaces, List.getElem?_map, List.getElem?_map]
  by_cases used : k < ts.length
  · have there : ts[k]? = some ts[k] := List.getElem?_eq_getElem used
    rw [List.getElem?_range used, there, Option.map_some, Option.map_some]
    congr 1
    exact targetPlaceAt_congr fun j hj => byteAt_targetPlaces head ts k j ts[k] there hj
  · rw [List.getElem?_eq_none (by simpa using used), List.getElem?_eq_none (l := ts) (by omega)]
    rfl

/-- A target in range reads back from its place (R76). -/
theorem target?_bytes (t : Target) (h : t.wf = true) : (targetPlaceAt t.bytes 0).target? = some t := by
  obtain ⟨v, start, stop⟩ := t
  have valve : valveOf? (num8 (Target.bytes ⟨v, start, stop⟩) 0) = some v := valveOf?_put8 v _
  have offset : half (Target.bytes ⟨v, start, stop⟩) 1 = start := half_putHalf start
  cases stop with
  | itemEnd o =>
    have field : half (Target.bytes ⟨v, start, .itemEnd o⟩) 4 = o := half_putHalf o
    have mode : num8 (Target.bytes ⟨v, start, .itemEnd o⟩) 3 = 1 := rfl
    simp [targetPlaceAt, TargetPlace.target?, valve, offset, field, mode, targetEnd?]
  | fixed span =>
    have field : half (Target.bytes ⟨v, start, .fixed span⟩) 4 = span := half_putHalf span
    have mode : num8 (Target.bytes ⟨v, start, .fixed span⟩) 3 = 2 := rfl
    have stop : targetEnd? 2 span = some (.fixed span) := if_neg (bne_iff_ne.mp h)
    simp [targetPlaceAt, TargetPlace.target?, valve, offset, field, mode, stop]

/-- A place is in range unless one of its fields is bad (R76). -/
theorem target?_isSome_iff (p : List Byte) (i : Nat) : (targetPlaceAt p i).target?.isSome = true ↔ ¬ BadPlaceAt p i := by
  unfold TargetPlace.target? targetPlaceAt BadPlaceAt
  dsimp only
  by_cases high : 16 ≤ num8 p i
  · simp [valveOf?_none _ high, high]
  · have valve : valveOf? (num8 p i) = some ⟨num8 p i, by omega⟩ := dif_pos (by omega)
    rw [valve]
    unfold targetEnd?
    split
    · rename_i v e hv he
      split at he
      · rename_i mode; simp [high, mode]
      · rename_i mode
        split at he
        · cases he
        · rename_i span
          simp only [Option.isSome_some, high, mode, span]
          decide
      · cases he
    · rename_i none
      refine iff_of_false (by simp) (not_not_intro (.inr ?_))
      split at none
      · exact absurd rfl (none _ _ rfl)
      · rename_i mode
        split at none
        · rename_i span; exact .inr ⟨mode, span⟩
        · exact absurd rfl (none _ _ rfl)
      · rename_i m1 m2; exact .inl ⟨m1, m2⟩

/-! ### The first that fails (R74) -/

/-- The index of the first element that fails a check. -/
theorem firstFailing_eq_some {α : Type} (ok : α → Bool) (xs : List α) (k : Nat)
    (fails : ∃ x, xs[k]? = some x ∧ ok x = false) (first : ∀ j x, j < k → xs[j]? = some x → ok x = true) :
    firstFailing ok xs = some k := by
  obtain ⟨x, there, bad⟩ := fails
  obtain ⟨inside, here⟩ := List.getElem?_eq_some_iff.mp there
  unfold firstFailing
  rw [List.findIdx?_eq_some_iff_getElem]
  refine ⟨inside, by rw [here, bad]; rfl, fun j hj => ?_⟩
  rw [first j xs[j] hj (List.getElem?_eq_getElem (by omega))]
  decide

/-- No element fails a check that all pass. -/
theorem firstFailing_none {α : Type} (ok : α → Bool) (xs : List α) (h : ∀ x ∈ xs, ok x = true) :
    firstFailing ok xs = none := firstFailing_eq_none.mpr h

/-! ### VERDICT (R71 to R81) -/

/-- VERDICT that finds the link ready is answered with what its owner gives. -/
theorem exec_verdict (s : State) (req : Byte) (p : List Byte) (hready : s.linkReady) (hsize : p.length = 27)
    (a : Answer) (h : runVerdict p s = a) :
    exec (.verdict req p) s = .next (a.state.withReply 0xA0 req a.body a.after) := by
  have answered := exec_known (.verdict req p) .verdict req p s rfl hsize hready
  rwa [handRequest, h] at answered

/-- VERDICT for an AWAITING record goes on to its fields (R75). -/
theorem runVerdict_awaiting (s : State) (p : List Byte) (r : ItemRecord) (c : Closing) (line : s.ctrl.line = .armed)
    (hr : s.record? (num16 p 0) = some r) (hc : r.progress = .awaiting c) : runVerdict p s = s.takeVerdict r c p := by
  rw [runVerdict, if_neg (not_not_intro line), hr]
  dsimp only
  rw [hc]

/-- Settles O41: line, record and record state, then the count, then the first place with a field out of range. -/
theorem verdictFirstChecksLineRecordAndFields : Obligations.VerdictFirstChecksLineRecordAndFields := by
  intro s req p hready hsize
  have refused : ∀ res index, runVerdict p s = s.refuseVerdict res index → exec (.verdict req p) s =
      .next (s.withReply 0xA0 req (put8 res.code ++ put8 s.slotsInUse ++ put8 (index.getD 255)) .nothing) :=
    fun res index h => exec_verdict s req p hready hsize _ h
  refine ⟨fun line => refused .state none ?_, fun line => ⟨fun unknown => refused .unknownItem none ?_,
    fun r hr => ⟨fun hp => refused .state none ?_, fun c d os hp => refused .state none ?_,
      fun c os hp => refused .late none ?_,
      fun c hp => ⟨fun many => refused .badValue none ?_, fun k few used bad first => refused .badValue (some k) ?_⟩⟩⟩⟩
  · rw [runVerdict, if_pos line]
  · rw [runVerdict, if_neg (not_not_intro line), unknown]
  · rw [runVerdict, if_neg (not_not_intro line), hr]
    dsimp only
    rw [hp]
  · rw [runVerdict, if_neg (not_not_intro line), hr]
    dsimp only
    rw [hp]
  · rw [runVerdict, if_neg (not_not_intro line), hr]
    dsimp only
    rw [hp]
  · rw [runVerdict_awaiting s p r c line hr hp, State.takeVerdict, if_pos many]
  · have place : ∀ j, j < num8 p 2 → (targetPlaces p 3 (num8 p 2))[j]? = some (targetPlaceAt p (3 + 6 * j)) :=
      fun j hj => by rw [targetPlaces, List.getElem?_map, List.getElem?_range hj]; rfl
    have failing : firstFailing (fun t => t.target?.isSome) (targetPlaces p 3 (num8 p 2)) = some k := by
      refine firstFailing_eq_some _ _ k ⟨_, place k used, ?_⟩ fun j x hj hx => ?_
      · rw [Bool.eq_false_iff, ne_eq, target?_isSome_iff]
        exact not_not_intro bad
      · rw [place j (by omega), Option.some.injEq] at hx
        rw [← hx, target?_isSome_iff]
        exact first j hj
    rw [runVerdict_awaiting s p r c line hr hp, State.takeVerdict, if_neg (by omega)]
    dsimp only
    rw [failing]

/-- VERDICT with a list of targets in range goes on to the checks on those targets (R71, R76). -/
theorem State.takeVerdict_payload (s : State) (r : ItemRecord) (c : Closing) (tag : Half) (ts : List Target)
    (few : ts.length ≤ 4) (hts : ∀ t ∈ ts, t.wf = true) :
    s.takeVerdict r c (verdictPayload tag ts) = s.takeTargets r c ts := by
  have count : num8 (verdictPayload tag ts) 2 = ts.length := num8_put8_self ts.length (by omega)
  have places : targetPlaces (verdictPayload tag ts) 3 ts.length = ts.map (fun t => targetPlaceAt t.bytes 0) :=
    targetPlaces_bytes (putHalf tag ++ put8 ts.length) ts
  have good : firstFailing (fun t : TargetPlace => t.target?.isSome) (ts.map (fun t => targetPlaceAt t.bytes 0)) =
      none := by
    refine firstFailing_none _ _ fun x hx => ?_
    obtain ⟨t, ht, rfl⟩ := List.mem_map.mp hx
    rw [target?_bytes t (hts t ht)]
    rfl
  have back : (ts.map (fun t => targetPlaceAt t.bytes 0)).filterMap TargetPlace.target? = ts := by
    rw [List.filterMap_map]
    exact filterMap_eq_self fun t ht => target?_bytes t (hts t ht)
  unfold State.takeVerdict
  rw [count, if_neg (by omega), places]
  dsimp only
  rw [good, back]

/-- A verdict's payload has its 27 bytes (Table 9-12). -/
theorem length_verdictPayload (tag : Half) (ts : List Target) (few : ts.length ≤ 4) :
    (verdictPayload tag ts).length = 27 := by
  have six : (ts.flatMap Target.bytes).length = 6 * ts.length := by
    rw [List.length_flatMap]
    simp only [Target.length_bytes, sum_map_const]
  simp [verdictPayload, targetPlacesBytes, padTo, putHalf, put8, six]
  omega

/-- An admission of nothing leaves a schedule of at most 128 actions as it is (R90, R98). -/
theorem State.admission_nil (s : State) (tag : Nat) (h : s.sched.slotsInUse ≤ 128) :
    s.admission tag [] = .admitted s.sched := by
  have placed : s.sched.join (fun v => (s.valve v).cfg.minGap) (requestsOf tag []) = some s.sched := rfl
  rw [State.admission, Schedule.takeAll, placed]
  dsimp only
  rw [if_pos h]

/-- Settles O42: each step of Table 4-2 answers with the first target that fails it, and placement decides the rest. -/
theorem verdictDecidesTheRecordOrChangesNothing : Obligations.VerdictDecidesTheRecordOrChangesNothing := by
  intro s req tag ts r c hready line hsched few hts hr hc ps listed enabled ordered ahead fails all send refused
  have number : num16 (verdictPayload tag ts) 0 = tag.toNat := congrArg BitVec.toNat (half_putHalf tag)
  have sameTag : r.tag = tag.toNat := State.tag_of_record? hr
  have run : runVerdict (verdictPayload tag ts) s = s.takeTargets r c ts := by
    rw [runVerdict_awaiting s _ r c line (by rw [number]; exact hr) hc, s.takeVerdict_payload r c tag ts few hts]
  have answer : ∀ a, s.takeTargets r c ts = a →
      exec (.verdict req (verdictPayload tag ts)) s = .next (a.state.withReply 0xA0 req a.body a.after) :=
    fun a h => exec_verdict s req _ hready (length_verdictPayload tag ts few) a (run.trans h)
  have takes : s.takeTargets r c ts =
      match firstFailing listed ps with
      | some k => s.refuseVerdict .badValue (some k)
      | none => match firstFailing enabled ps with
        | some k => s.refuseVerdict .valveDisabled (some k)
        | none => match firstFailing ordered ps with
          | some k => s.refuseVerdict .badValue (some k)
          | none => match firstFailing ahead ps with
            | some k => s.refuseVerdict .late (some k)
            | none => match s.admission r.tag ps with
              | .conflict => s.refuseVerdict .conflict none
              | .noRoom => s.refuseVerdict .noRoom none
              | .admitted c' =>
                let s1 := ({ s with sched := c' }).decide r.tag c .verdict ps
                ⟨s1, s1.verdictBody .ok none, .nothing⟩ := rfl
  have failing : ∀ ok k, fails ok k → firstFailing ok ps = some k := fun ok k h => firstFailing_eq_some ok ps k h.1 h.2
  have passing : ∀ ok, all ok → firstFailing ok ps = none := fun ok h => firstFailing_none ok ps h
  have admitted : ∀ placed, all listed → all enabled → all ordered → all ahead →
      s.admission r.tag ps = .admitted placed → s.takeTargets r c ts =
        ⟨({ s with sched := placed }).decide r.tag c .verdict ps,
          ({ s with sched := placed } : State).verdictBody .ok none, .nothing⟩ := fun placed h1 h2 h3 h4 h => by
    rw [takes, passing _ h1, passing _ h2, passing _ h3, passing _ h4]
    dsimp only
    rw [h]
    rfl
  refine ⟨fun k h => ?_, fun k h1 h => ?_, fun k h1 h2 h => ?_, fun k h1 h2 h3 h => ?_,
    fun h1 h2 h3 h4 => ⟨fun h => ?_, fun h => ?_, fun placed h => ?_⟩, fun hnil => ?_⟩
  · refine answer (s.refuseVerdict .badValue (some k)) ?_
    rw [takes, failing _ k h]
  · refine answer (s.refuseVerdict .valveDisabled (some k)) ?_
    rw [takes, passing _ h1, failing _ k h]
  · refine answer (s.refuseVerdict .badValue (some k)) ?_
    rw [takes, passing _ h1, passing _ h2, failing _ k h]
  · refine answer (s.refuseVerdict .late (some k)) ?_
    rw [takes, passing _ h1, passing _ h2, passing _ h3, failing _ k h]
  · refine answer (s.refuseVerdict .conflict none) ?_
    rw [takes, passing _ h1, passing _ h2, passing _ h3, passing _ h4]
    dsimp only
    rw [h]
  · refine answer (s.refuseVerdict .noRoom none) ?_
    rw [takes, passing _ h1, passing _ h2, passing _ h3, passing _ h4]
    dsimp only
    rw [h]
  · have answered := answer _ (admitted placed h1 h2 h3 h4 h)
    rw [State.decide, sameTag] at answered
    exact answered
  · have none : ps = [] := by rw [show ps = ts.map (s.place r c) from rfl, hnil]; rfl
    have passes : ∀ ok, all ok := fun ok t ht => by rw [none] at ht; cases ht
    have answered := answer _ (admitted s.sched (passes _) (passes _) (passes _) (passes _)
      (by rw [none]; exact s.admission_nil r.tag hsched.1))
    rw [none, State.decide, sameTag] at answered
    exact answered

end Sys2Proof.Machine
end

section
/-! PROOFS. The Lane Inputs: SET_LANE (R29 to R31) and the samples of an eye (R34 to R36). -/

namespace Sys2Proof.Machine

/-! ### What the Lane Inputs hold is not read by notices -/

/-- A choice does not read the lanes. -/
theorem State.choose_putLane (s : State) (l : Fin 8) (x : Lane) (n : Nat) :
    (s.putLane l x).choose n = ((s.choose n).1, (s.choose n).2.putLane l x) := by
  unfold State.choose
  rw [State.order_putLane]
  split <;> rfl

/-- The FAULT notice of NOTICE_DROP does not read the lanes. -/
theorem State.offerDropFault_putLane (s : State) (l : Fin 8) (x : Lane) :
    (s.putLane l x).offerDropFault = s.offerDropFault.putLane l x := by
  unfold State.offerDropFault
  rw [State.link_putLane, State.choose_putLane]
  dsimp only
  split
  · split <;> rfl
  · rfl

/-- A dropped notice does not read the lanes. -/
theorem State.noticeDropped_putLane (s : State) (l : Fin 8) (x : Lane) :
    (s.putLane l x).noticeDropped = s.noticeDropped.putLane l x := by
  have dropped := State.offerDropFault_putLane (s.putFlag .noticeDrop ⟨true, false⟩) l x
  cases hset : (s.flag .noticeDrop).set with
  | true => rw [s.noticeDropped_set hset, State.noticeDropped_set (s.putLane l x) hset]; rfl
  | false => rw [s.noticeDropped_clear hset, State.noticeDropped_clear (s.putLane l x) hset]; exact dropped

/-- An offered notice does not read the lanes. -/
theorem State.offer_putLane (s : State) (n : Notice) (l : Fin 8) (x : Lane) :
    (s.putLane l x).offer n = (s.offer n).putLane l x := by
  unfold State.offer
  rw [State.link_putLane, State.noticeDropped_putLane]
  split
  · split <;> rfl
  · rfl

/-- A discard does not read the lanes (R55). -/
theorem State.discard_putLane (s : State) (tag : Nat) (why : DiscardReason) (l : Fin 8) (x : Lane) :
    (s.putLane l x).discard tag why = (s.discard tag why).putLane l x := by
  have record : (s.putLane l x).record? tag = s.record? tag := rfl
  unfold State.discard
  rw [record]
  split
  · split
    · exact State.offer_putLane (s.removeRecord tag) _ l x
    · rfl
  · rfl

/-! ### SET_LANE's payload (R29, Table 9-11) -/

/-- What each element of a list is read as. -/
theorem exists_of_mapM_eq_some {α β : Type} (f : α → Option β) : ∀ (xs : List α) (ys : List β),
    xs.mapM f = some ys → ∀ (k : Nat) (x : α), xs[k]? = some x → ∃ y, f x = some y ∧ y ∈ ys
  | [], _, _, k, x, hx => by simp at hx
  | a :: as, ys, h, k, x, hx => by
    rw [List.mapM_cons] at h
    obtain ⟨b, hb, h⟩ := Option.bind_eq_some_iff.mp h
    obtain ⟨bs, hbs, h⟩ := Option.bind_eq_some_iff.mp h
    cases h
    cases k with
    | zero =>
      cases hx
      exact ⟨b, hb, by simp⟩
    | succ k =>
      obtain ⟨y, hy, mem⟩ := exists_of_mapM_eq_some f as bs hbs k x hx
      exact ⟨y, hy, by simp [mem]⟩

/-- A list whose elements are each read back is read back. -/
theorem mapM_eq_some_of_forall {α β : Type} (f : α → Option β) (g : β → α) : ∀ ys : List β,
    (∀ y ∈ ys, f (g y) = some y) → (ys.map g).mapM f = some ys
  | [], _ => rfl
  | y :: ys, h => by
    rw [List.map_cons, List.mapM_cons, h y (by simp), mapM_eq_some_of_forall f g ys fun z hz => h z (by simp [hz])]
    rfl

/-- A default that is read has at most four targets, each in range and in the valve set (R29). -/
theorem of_parseDefault {p : List Byte} {valveSet : Half} {ts : List Target} (h : parseDefault p valveSet = some ts) :
    num8 p 24 ≤ 4 ∧ ∀ k, k < num8 p 24 →
      ¬ BadPlaceAt p (25 + 6 * k) ∧ valveSet.getLsbD (num8 p (25 + 6 * k)) = true := by
  unfold parseDefault at h
  split at h
  · rename_i few
    refine ⟨few, fun k hk => ?_⟩
    obtain ⟨us, hus, h⟩ := Option.bind_eq_some_iff.mp h
    split at h
    · rename_i inSet
      have place : (targetPlaces p 25 (num8 p 24))[k]? = some (targetPlaceAt p (25 + 6 * k)) := by
        rw [targetPlaces, List.getElem?_map, List.getElem?_range hk]
        rfl
      obtain ⟨t, ht, mem⟩ := exists_of_mapM_eq_some _ _ _ hus k _ place
      have valve : t.valve.val = num8 p (25 + 6 * k) := by
        unfold TargetPlace.target? at ht
        split at ht
        · rename_i v e hv he
          cases ht
          unfold valveOf? at hv
          split at hv
          · cases hv; rfl
          · cases hv
        · cases ht
      refine ⟨(target?_isSome_iff p _).mp (by rw [ht]; rfl), ?_⟩
      rw [← valve]
      exact List.all_eq_true.mp inSet t mem
    · cases h
  · cases h

/-- A yes/no or level field that is listed is 0 or 1. -/
theorem range_of_boolOfCode? {n : Nat} {b : Bool} (h : boolOfCode? n = some b) : n < 2 := by
  unfold boolOfCode? at h
  split at h <;> first | omega | simp at h

/-- A yes/no or level field that is listed is 0 or 1. -/
theorem range_of_levelOfCode? {n : Nat} {b : Level} (h : levelOfCode? n = some b) : n < 2 := by
  unfold levelOfCode? at h
  split at h <;> first | omega | simp at h

/-- SET_LANE with a field out of its range is not read (R29). -/
theorem parseLane_eq_none (p : List Byte) (h : 8 ≤ num8 p 0 ∨ 2 ≤ num8 p 1 ∨ 2 ≤ num8 p 2 ∨ 2 ≤ num8 p 3 ∨
    10000 < num16 p 4 ∨ num16 p 6 = 0 ∨ num16 p 8 < num16 p 6 ∨ 1048575 < num32 p 10 ∨ num32 p 14 ≤ num16 p 8 ∨
    1048575 < num32 p 14 ∨ num32 p 18 = 0 ∨ 1048575 < num32 p 18 ∨ 4 < num8 p 24) : parseLane p = none := by
  unfold parseLane
  split
  · rename_i lane enabled present pullUp dflt hlane henabled hpresent hpullUp hdflt
    have laneRange : num8 p 0 < 8 := by
      refine Classical.byContradiction fun high => ?_
      rw [laneOf?, dif_neg high] at hlane
      cases hlane
    have r1 := range_of_boolOfCode? henabled
    have r2 := range_of_levelOfCode? hpresent
    have r3 := range_of_boolOfCode? hpullUp
    have few := (of_parseDefault hdflt).1
    rw [if_neg (by omega)]
  · rfl

/-- SET_LANE with a default that has a bad place, or a valve outside the valve set, is not read (R29). -/
theorem parseLane_badPlace (p : List Byte) (k : Nat) (hk : k < num8 p 24)
    (bad : BadPlaceAt p (25 + 6 * k) ∨ (half p 22).getLsbD (num8 p (25 + 6 * k)) = false) : parseLane p = none := by
  have unread : parseDefault p (half p 22) = none := by
    refine Classical.byContradiction fun read => ?_
    obtain ⟨ts, hts⟩ := Option.ne_none_iff_exists'.mp read
    obtain ⟨good, inSet⟩ := (of_parseDefault hts).2 k hk
    rcases bad with bad | bad
    · exact good bad
    · exact absurd (inSet.symm.trans bad) (by decide)
  unfold parseLane
  rw [unread]
  split
  · rename_i none; cases none
  · rfl

/-- The bytes of SET_LANE in front of its default (Table 9-11). -/
theorem LaneParams.payload_eq (q : LaneParams) (l : Fin 8) : q.payload l =
    BitVec.ofNat 8 l.val :: (if q.enabled then 1 else 0) :: levelCode q.present :: (if q.pullUp then 1 else 0) ::
      (put16 q.debounce ++ (put16 q.minLength ++ (put16 q.maxLength ++ (put32 q.eyeOffset ++ (put32 q.horizonOffset ++
        (put32 q.exitOffset ++ (putHalf q.valveSet ++ (put8 q.default.length ++ targetPlacesBytes q.default)))))))) := by
  simp only [LaneParams.payload, put8, putBool, List.append_assoc, List.cons_append, List.nil_append]

/-- The fields of SET_LANE read back from its payload (Table 9-11). -/
structure LaneFields (q : LaneParams) (l : Fin 8) (p : List Byte) : Prop where
  lane : laneOf? (num8 p 0) = some l
  enabled : boolOfCode? (num8 p 1) = some q.enabled
  present : levelOfCode? (num8 p 2) = some q.present
  pullUp : boolOfCode? (num8 p 3) = some q.pullUp
  debounce : num16 p 4 = q.debounce
  minLength : num16 p 6 = q.minLength
  maxLength : num16 p 8 = q.maxLength
  eyeOffset : num32 p 10 = q.eyeOffset
  horizonOffset : num32 p 14 = q.horizonOffset
  exitOffset : num32 p 18 = q.exitOffset
  valveSet : half p 22 = q.valveSet
  count : num8 p 24 = q.default.length

/-- Parameters in range are read back field by field (R29). -/
theorem laneFields_payload (q : LaneParams) (l : Fin 8) (h : q.wf) : LaneFields q l (q.payload l) := by
  obtain ⟨debounce, min, ordered, max, eye, horizon, horizonMax, exit, exitMax, few, hts⟩ := h
  rw [q.payload_eq l]
  exact {
    lane := by
      change laneOf? (BitVec.ofNat 8 l.val).toNat = _
      rw [BitVec.toNat_ofNat, Nat.mod_eq_of_lt (by omega)]
      exact dif_pos l.isLt
    enabled := by
      change boolOfCode? (BitVec.toNat (if q.enabled then 1 else 0)) = _
      cases q.enabled <;> rfl
    present := by
      change levelOfCode? (levelCode q.present).toNat = _
      cases q.present <;> rfl
    pullUp := by
      change boolOfCode? (BitVec.toNat (if q.pullUp then 1 else 0)) = _
      cases q.pullUp <;> rfl
    debounce := num16_put16 q.debounce (by omega)
    minLength := num16_put16 q.minLength (by omega)
    maxLength := num16_put16 q.maxLength (by omega)
    eyeOffset := num32_put32 q.eyeOffset (by omega)
    horizonOffset := num32_put32 q.horizonOffset (by omega)
    exitOffset := num32_put32 q.exitOffset (by omega)
    valveSet := half_putHalf q.valveSet
    count := num8_put8_self q.default.length (by omega) }

/-- The default of a SET_LANE built from parameters in range is read back (R29). -/
theorem parseDefault_payload (q : LaneParams) (l : Fin 8) (h : q.wf) :
    parseDefault (q.payload l) q.valveSet = some q.default := by
  have count := (laneFields_payload q l h).count
  obtain ⟨_, _, _, _, _, _, _, _, _, few, hts⟩ := h
  have places : targetPlaces (q.payload l) 25 q.default.length = q.default.map (fun t => targetPlaceAt t.bytes 0) :=
    targetPlaces_bytes (put8 l.val ++ putBool q.enabled ++ [levelCode q.present] ++ putBool q.pullUp ++
      put16 q.debounce ++ put16 q.minLength ++ put16 q.maxLength ++ put32 q.eyeOffset ++ put32 q.horizonOffset ++
      put32 q.exitOffset ++ putHalf q.valveSet ++ put8 q.default.length) q.default
  have read : (targetPlaces (q.payload l) 25 q.default.length).mapM TargetPlace.target? = some q.default := by
    rw [places]
    exact mapM_eq_some_of_forall _ _ _ fun t ht => target?_bytes t (hts t ht).1
  unfold parseDefault
  rw [count, if_pos few, read]
  exact if_pos (List.all_eq_true.mpr fun t ht => (hts t ht).2)

/-- SET_LANE built from parameters in range is read back as those parameters (R29, Table 9-11). -/
theorem parseLane_payload (q : LaneParams) (l : Fin 8) (h : q.wf) : parseLane (q.payload l) = some (l, q) := by
  have f := laneFields_payload q l h
  have dflt := parseDefault_payload q l h
  obtain ⟨debounce, min, ordered, max, eye, horizon, horizonMax, exit, exitMax, few, hts⟩ := h
  unfold parseLane
  rw [f.lane, f.enabled, f.present, f.pullUp, f.valveSet, dflt, f.debounce, f.minLength, f.maxLength, f.eyeOffset,
    f.horizonOffset, f.exitOffset]
  dsimp only
  rw [if_pos (by omega)]

/-! ### The lane state that SET_LANE leaves (R30, R31) -/

/-- The lane state that the eye gives a lane under new parameters (R31, R38). -/
def Lane.stateUnder (x : Lane) (q : LaneParams) : LaneState :=
  if x.confirmed = q.present then .blocked .activation else .clear

/-- A lane activated under new parameters (R38). -/
theorem State.activateLane_of_lane (s : State) (l : Fin 8) (x : Lane) (q : LaneParams)
    (h : s.lane l = { x with cfg := q }) :
    s.activateLane l = s.putLane l { x with cfg := q, state := x.stateUnder q } := by
  unfold State.activateLane State.putLaneState Lane.eyePresent Lane.stateUnder
  rw [h]
  simp only [beq_iff_eq]

/-- The record of an OCCUPIED lane is given up; the lane itself is written after it (R31). -/
theorem State.putLane_abandonByLane (s : State) (l : Fin 8) (y : Lane) (o : OpenCapture)
    (h : (s.lane l).state = .occupied o) :
    (s.abandonByLane l).putLane l y = (s.putLane l y).discard o.tag .laneOff := by
  unfold State.abandonByLane
  rw [h, State.discard_putLane]

/-- A lane that is not OCCUPIED has no record to give up. -/
theorem State.abandonByLane_none (s : State) (l : Fin 8) (h : ∀ o, (s.lane l).state ≠ .occupied o) :
    s.abandonByLane l = s := by
  unfold State.abandonByLane
  split
  · rename_i o ho; exact absurd ho (h o)
  · rfl

/-- Giving up a record leaves the lane. -/
theorem State.lane_abandonByLane (s : State) (l k : Fin 8) : (s.abandonByLane l).lane k = s.lane k := by
  have lanes : (s.abandonByLane l).lanes = s.lanes := by
    unfold State.abandonByLane
    split <;> simp
  unfold State.lane
  rw [lanes]

section applyLane
variable (s : State) (l : Fin 8) (q : LaneParams)

/-- A lane that is switched off gives up its record (R31). -/
theorem State.applyLane_leaves (old : (s.lane l).cfg.enabled = true) (new : q.enabled = false) :
    s.applyLane l q = ((s.putLane l { s.lane l with cfg := q }).abandonByLane l).putLane l
      { s.lane l with cfg := q, state := .off } := by
  simp [State.applyLane, old, new, State.putLaneState, State.lane_abandonByLane]

/-- A lane that is switched on in ARMED becomes active (R31). -/
theorem State.applyLane_enters (old : (s.lane l).cfg.enabled = false) (new : q.enabled = true)
    (armed : s.ctrl.line = .armed) :
    s.applyLane l q = s.putLane l { s.lane l with cfg := q, state := (s.lane l).stateUnder q } := by
  have active := State.activateLane_of_lane (s.putLane l { s.lane l with cfg := q }) l (s.lane l) q (by simp)
  simp [State.applyLane, old, new, armed, active, State.putLane_putLane]

/-- A lane whose present level changes in ARMED gives up its record and becomes active again (R31). -/
theorem State.applyLane_again (old : (s.lane l).cfg.enabled = true) (new : q.enabled = true)
    (armed : s.ctrl.line = .armed) (changed : (s.lane l).cfg.present ≠ q.present) :
    s.applyLane l q = ((s.putLane l { s.lane l with cfg := q }).abandonByLane l).putLane l
      { s.lane l with cfg := q, state := (s.lane l).stateUnder q } := by
  have active := State.activateLane_of_lane ((s.putLane l { s.lane l with cfg := q }).abandonByLane l) l (s.lane l) q
    (by rw [State.lane_abandonByLane, State.lane_putLane_self])
  simp [State.applyLane, old, new, armed, changed, active]

/-- Any other SET_LANE leaves the lane state (R31). -/
theorem State.applyLane_stays (leaves : ¬ ((s.lane l).cfg.enabled = true ∧ q.enabled = false))
    (enters : ¬ ((s.lane l).cfg.enabled = false ∧ q.enabled = true ∧ s.ctrl.line = .armed))
    (again : ¬ ((s.lane l).cfg.enabled = true ∧ q.enabled = true ∧ s.ctrl.line = .armed ∧
      (s.lane l).cfg.present ≠ q.present)) : s.applyLane l q = s.putLane l { s.lane l with cfg := q } := by
  unfold State.applyLane
  dsimp only
  cases old : (s.lane l).cfg.enabled <;> cases new : q.enabled <;> simp_all

end applyLane

/-- SET_LANE that is read applies its parameters (R29). -/
theorem runSetLane_payload (s : State) (l : Fin 8) (q : LaneParams) (h : q.wf) :
    runSetLane (q.payload l) s = (s.applyLane l q).accept := by
  rw [runSetLane, parseLane_payload q l h]

/-- SET_LANE's payload has its 49 bytes (Table 9-11). -/
theorem length_lanePayload (q : LaneParams) (l : Fin 8) (few : q.default.length ≤ 4) : (q.payload l).length = 49 := by
  have six : (q.default.flatMap Target.bytes).length = 6 * q.default.length := by
    rw [List.length_flatMap]
    simp only [Target.length_bytes, sum_map_const]
  simp [LaneParams.payload, targetPlacesBytes, padTo, putHalf, put8, put16, put32, putWord, putBool, six]
  omega

/-- Giving up the record of a lane under new parameters, with the lane written behind it (R31). -/
theorem State.putLane_abandonByLane_put (s : State) (l : Fin 8) (y : Lane) (q : LaneParams) (o : OpenCapture)
    (h : (s.lane l).state = .occupied o) :
    ((s.putLane l { s.lane l with cfg := q }).abandonByLane l).putLane l y = (s.putLane l y).discard o.tag .laneOff := by
  rw [State.putLane_abandonByLane _ l y o (by rw [State.lane_putLane_self]; exact h), State.putLane_putLane]

/-- A lane with no record to give up is only written (R31). -/
theorem State.putLane_abandonByLane_none (s : State) (l : Fin 8) (y : Lane) (q : LaneParams)
    (h : ∀ o, (s.lane l).state ≠ .occupied o) :
    ((s.putLane l { s.lane l with cfg := q }).abandonByLane l).putLane l y = s.putLane l y := by
  rw [State.abandonByLane_none _ l (by rw [State.lane_putLane_self]; exact h), State.putLane_putLane]

/-- Settles O36: the checks leave nothing half done, and the lane state follows the four cases of R31. -/
theorem setLaneTakesAllParametersOrNone : Obligations.SetLaneTakesAllParametersOrNone := by
  refine ⟨fun s tag p hready hsize unread => ?_, fun q l h => parseLane_payload q l h, parseLane_eq_none,
    parseLane_badPlace, ?_⟩
  · have answered := exec_known (.setLane tag p) .setLane tag p s rfl hsize hready
    rw [handRequest, runSetLane, unread] at answered
    exact answered
  · intro s tag l q hready hq x eye leaves enters again t
    have applied : ∀ u, s.applyLane l q = u →
        exec (.setLane tag (q.payload l)) s = .next (u.withReply 0x91 tag [0] .nothing) := fun u h => by
      obtain ⟨_, _, _, _, _, _, _, _, _, few, _⟩ := id hq
      have answered := exec_known (.setLane tag (q.payload l)) .setLane tag _ s rfl (length_lanePayload q l few) hready
      rw [handRequest, runSetLane_payload s l q hq, h] at answered
      exact answered
    have leavesIff : leaves = true ↔ x.cfg.enabled = true ∧ q.enabled = false := by simp [leaves]
    have entersIff : enters = true ↔ x.cfg.enabled = false ∧ q.enabled = true ∧ s.ctrl.line = .armed := by
      simp [enters, and_assoc]
    have againIff : again = true ↔ x.cfg.enabled = true ∧ q.enabled = true ∧ s.ctrl.line = .armed ∧
        x.cfg.present ≠ q.present := by simp [again, and_assoc]
    refine ⟨fun free => applied t ?_, fun o ho gone => applied _ ?_⟩
    · by_cases hl : leaves = true
      · obtain ⟨old, new⟩ := leavesIff.mp hl
        have empty : ∀ o, x.state ≠ .occupied o := fun o ho => absurd (hl.symm.trans (free o ho).1) (by decide)
        rw [s.applyLane_leaves l q old new, s.putLane_abandonByLane_none l _ q empty]
        simp only [t, hl, if_true]
        rfl
      · by_cases he : enters = true
        · obtain ⟨old, new, armed⟩ := entersIff.mp he
          rw [s.applyLane_enters l q old new armed]
          simp only [t, hl, he, Bool.true_or, if_true]
          rfl
        · by_cases ha : again = true
          · obtain ⟨old, new, armed, changed⟩ := againIff.mp ha
            have empty : ∀ o, x.state ≠ .occupied o := fun o ho => absurd (ha.symm.trans (free o ho).2) (by decide)
            rw [s.applyLane_again l q old new armed changed, s.putLane_abandonByLane_none l _ q empty]
            simp only [t, hl, ha, Bool.or_true, if_true]
            rfl
          · rw [s.applyLane_stays l q (fun h => hl (leavesIff.mpr h)) (fun h => he (entersIff.mpr h))
              (fun h => ha (againIff.mpr h))]
            simp only [t, hl, he, ha, Bool.or_false]
            rfl
    · by_cases hl : leaves = true
      · obtain ⟨old, new⟩ := leavesIff.mp hl
        rw [s.applyLane_leaves l q old new, s.putLane_abandonByLane_put l _ q o ho]
        simp only [t, hl, if_true]
        rfl
      · have ha := gone.resolve_left hl
        obtain ⟨old, new, armed, changed⟩ := againIff.mp ha
        rw [s.applyLane_again l q old new armed changed, s.putLane_abandonByLane_put l _ q o ho]
        simp only [t, hl, ha, Bool.or_true, if_true]
        rfl

/-! ### Samples of an eye (R34 to R36) -/

/-- A sample acts as the statement of it says, for any change of the pins before it (R34 to R36). -/
theorem sampledEye (s s1 : State) (l : Fin 8) (level : Level) (lanes : s1.lanes = s.lanes) (now : s1.now = s.now) :
    SampledEye s s1 l level (.next (s1.sampleEye l level)) := by
  have lane : s1.lane l = s.lane l := by rw [State.lane, State.lane, lanes]
  have candidate : s1.openCandidate l level = ⟨level, s.lanes.position,
      (s.lanes.source == .estimate || s.lanes.source == .confirming), s.now, (s.lane l).cfg.debounce⟩ := by
    unfold State.openCandidate
    rw [lane, lanes, now]
    congr 1
    cases s.lanes.source <;> rfl
  refine ⟨fun same => ?_, fun c other open' => ?_, fun other closed => ⟨_, candidate, fun slow => ?_, fun fast => ?_⟩⟩
  · unfold State.sampleEye
    dsimp only
    rw [lane]
    cases hc : (s.lane l).candidate with
    | some c => simp [same, State.putLane_putLane]
    | none => simp [same, ← hc]
  · unfold State.sampleEye
    dsimp only
    rw [lane, open']
    simp [other]
  · unfold State.sampleEye
    dsimp only
    rw [lane, closed]
    simp [other, Nat.pos_iff_ne_zero.mp slow, State.putLane_putLane]
  · unfold State.sampleEye
    dsimp only
    rw [lane, closed]
    simp [other, fast, State.putLane_putLane]
    rfl

/-- Settles O37: the command drives the pin, and the sample is the one that a microsecond takes. -/
theorem eyeRawChangeOpensOrDropsACandidate : Obligations.EyeRawChangeOpensOrDropsACandidate :=
  fun s l level => sampledEye s _ l level rfl rfl

end Sys2Proof.Machine
end

section
/-! PROOFS. Items at their lane (R36, R37, R40 to R47, R52 to R55): confirmed edges, the closing of an item, the lane default
it can bring, and the other ways an item ends. -/

namespace Sys2Proof.Machine

/-! ### The lane default (R57, R60, R61, R68) -/

/-- The checks of R60 pass when every target is good, in the words of the statement. -/
theorem State.defaultChecks_iff (s : State) (c : Closing) (ps : List Placed) : s.defaultChecks c ps = true ↔
    ∀ p ∈ ps, (s.valve p.valve).cfg.mode ≠ .off ∧ (s.valve p.valve).state ≠ .disabled ∧
      comesAfter p.closeAt p.openAt = true ∧ comesAfter c.exitAt p.closeAt = true ∧
      reached s.table.position p.openAt = false := by
  unfold State.defaultChecks State.drivable State.isDisabled Placed.ordered
  simp only [Bool.and_eq_true, List.all_eq_true, bne_iff_ne, Bool.not_eq_true', beq_eq_false_iff_ne]
  constructor
  · rintro ⟨⟨drive, order⟩, late⟩ p hp
    exact ⟨(drive p hp).1, (drive p hp).2, (order p hp).1, (order p hp).2, late p hp⟩
  · intro good
    refine ⟨⟨fun p hp => ?_, fun p hp => ?_⟩, fun p hp => ?_⟩ <;>
      obtain ⟨drive, enabled, closes, exits, late⟩ := good p hp
    · exact ⟨drive, enabled⟩
    · exact ⟨closes, exits⟩
    · exact late

/-- The application of a lane default, in the words of the statement (R60, R61, R68). -/
theorem State.applyDefault_defaulted (s : State) (r : ItemRecord) (c : Closing) : Defaulted s r c (s.applyDefault r c) := by
  unfold Defaulted
  intro ps good record
  have checks : s.defaultChecks c ps = true ↔ ∀ p ∈ ps, good p := s.defaultChecks_iff c ps
  have applied : s.applyDefault r c =
      if ps.isEmpty then (s.setDefaulted r.tag c [] .pending).offer (.itemDefaulted r.tag false true)
      else if s.defaultChecks c ps then
        match s.admission r.tag ps with
        | .admitted c' =>
          (({ s with sched := c' }).setDefaulted r.tag c ps .pending).offer (.itemDefaulted r.tag true true)
        | .noRoom => s.defaultFailed r.tag c ps true
        | .conflict => s.defaultFailed r.tag c ps true
      else s.defaultFailed r.tag c ps false := rfl
  have notEmpty : ps ≠ [] → ¬ ps.isEmpty = true := fun h => by rwa [List.isEmpty_iff]
  refine ⟨fun pass => ?_, fun eject bad => ?_, fun eject all => ⟨fun placed admitted => ?_, fun failed => ?_⟩⟩
  · rw [applied, pass]
    simp only [record, pass]
    rfl
  · have fails : ¬ s.defaultChecks c ps = true := by
      rw [checks]
      obtain ⟨p, hp, bad⟩ := bad
      exact fun all => bad (all p hp)
    rw [applied, if_neg (notEmpty eject), if_neg fails]
    rfl
  · rw [applied, if_neg (notEmpty eject), if_pos (checks.mpr all), admitted]
    rfl
  · rw [applied, if_neg (notEmpty eject), if_pos (checks.mpr all)]
    rcases failed with failed | failed <;> rw [failed] <;> rfl

/-! ### Closing (R53, R54, R66) -/

/-- The closing of an ENTERING record, in the words of the statement (R53, R54, R66). -/
theorem State.closeItem_closed (s : State) (r : ItemRecord) (trailing : Pos) (length exitOffset : Nat)
    (blocked estimated : Bool) (hr : s.record? r.tag = some r) (hp : r.progress = .entering) :
    Closed s r ⟨trailing, length, trailing + BitVec.ofNat 32 exitOffset⟩ blocked estimated
      (s.closeItem r.tag trailing length exitOffset blocked estimated) := by
  unfold Closed
  intro r1 w
  have closed : s.closeItem r.tag trailing length exitOffset blocked estimated =
      if reached w.table.position r.horizon || reached w.table.position (trailing + BitVec.ofNat 32 exitOffset) then
        w.applyDefault r1 ⟨trailing, length, trailing + BitVec.ofNat 32 exitOffset⟩ else w := by
    unfold State.closeItem
    rw [hr]
    dsimp only
    rw [hp]
    rfl
  have position : w.table.position = s.table.position := by
    have table : w.table = (s.updateRecord r.tag (fun _ => r1)).table := State.table_offer _ _
    rw [table]
    rfl
  rw [closed, position]
  refine ⟨fun ahead inside => ?_, fun passed => ?_⟩
  · rw [ahead, inside]
    rfl
  · rw [if_pos (by rwa [Bool.or_eq_true])]
    exact w.applyDefault_defaulted r1 _

/-- A closing leaves the lanes. -/
theorem State.lane_closeItem (s : State) (tag : Nat) (trailing : Pos) (length exitOffset : Nat)
    (blocked estimated : Bool) (k : Fin 8) :
    (s.closeItem tag trailing length exitOffset blocked estimated).lane k = s.lane k := by
  have lanes : (s.closeItem tag trailing length exitOffset blocked estimated).lanes = s.lanes := by simp
  unfold State.lane
  rw [lanes]

/-! ### Confirmed edges (R36, R37, R40 to R43, R47) -/

/-- Writing a lane's state behind a write to the lane. -/
theorem State.putLaneState_putLane (s : State) (l : Fin 8) (y : Lane) (st : LaneState) :
    (s.putLane l y).putLaneState l st = s.putLane l { y with state := st } := by
  rw [State.putLaneState, State.lane_putLane_self, State.putLane_putLane]

/-- The estimated mark of a capture under a source (R35, R44). -/
theorem SourceKind.estimates_eq (k : SourceKind) : k.estimates = (k == .estimate || k == .confirming) := by
  cases k <;> rfl

/-- The tag counter moves on from 65,535 to 1 (R50). -/
theorem succTag_eq (t : Nat) : succTag t = if t < 65535 then t + 1 else 1 := by
  have last : Config.maxTag = 65535 := rfl
  unfold succTag
  rw [last]
  split <;> split <;> first | rfl | omega

section edge
variable (s : State) (l : Fin 8) (c : Candidate)

/-- The lane after its candidate is confirmed (R36). -/
def State.confirmedLane : Lane := { s.lane l with confirmed := c.level, candidate := none }

/-- An absent edge in CLEAR is only confirmed (R37). -/
theorem State.confirmEdge_clear_absent (h : (s.lane l).state = .clear) (absent : c.level ≠ (s.lane l).cfg.present) :
    s.confirmEdge l c = s.putLane l (s.confirmedLane l c) := by
  unfold State.confirmEdge
  rw [h]
  simp only [beq_eq_false_iff_ne.mpr absent]
  rfl

/-- A present edge in CLEAR in REVERSE blocks the lane (R46). -/
theorem State.confirmEdge_clear_reverse (h : (s.lane l).state = .clear) (present : c.level = (s.lane l).cfg.present)
    (reverse : s.lanes.motion = .reverse) :
    s.confirmEdge l c = s.putLane l { s.confirmedLane l c with state := .blocked .reversal } := by
  unfold State.confirmEdge
  rw [h]
  simp only [beq_iff_eq.mpr present, if_true, State.motion_putLane, reverse]
  exact s.putLaneState_putLane l _ _

/-- A present edge in CLEAR asks for a record (R41). -/
theorem State.confirmEdge_clear_asks (h : (s.lane l).state = .clear) (present : c.level = (s.lane l).cfg.present)
    (forward : s.lanes.motion ≠ .reverse) :
    s.confirmEdge l c = (s.putLane l (s.confirmedLane l c)).askRecord l c := by
  unfold State.confirmEdge
  rw [h]
  simp only [beq_iff_eq.mpr present, if_true]
  exact if_neg forward

/-- A record asked for with the table full blocks the lane (R42). -/
theorem State.askRecord_full (y : Lane) (full : 64 ≤ s.table.records.length) :
    (s.putLane l y).askRecord l c = (s.putLane l { y with state := .blocked .full }).occur .tableFull := by
  have none : ¬ (s.putLane l y).table.records.length < 64 := Nat.not_lt.mpr full
  rw [State.askRecord, if_neg none, s.putLaneState_putLane]

/-- A record asked for is made of the candidate under the next free tag (R41, R50, R52). -/
theorem State.askRecord_room (y : Lane) (room : s.table.records.length < 64) :
    (s.putLane l y).askRecord l c =
      { s.putLane l { y with state := .occupied ⟨s.table.tagToUse, c.captured, c.estimated, y.cfg.minLength,
          y.cfg.maxLength, y.cfg.exitOffset⟩ } with
        table := { s.table with
          records := s.table.records ++
            [{ tag := s.table.tagToUse, lane := l, leading := c.captured, estimated := c.estimated,
               blocked := false, horizon := c.captured + BitVec.ofNat 32 y.cfg.horizonOffset,
               snapshot := ⟨y.cfg.eyeOffset, y.cfg.valveSet, y.cfg.default⟩, progress := .entering }],
          nextTag := if s.table.tagToUse < 65535 then s.table.tagToUse + 1 else 1 } } := by
  have lane : (s.putLane l y).lane l = y := s.lane_putLane_self l y
  have fits : (s.putLane l y).table.records.length < 64 := room
  have item : (s.putLane l y).newItem l c = ⟨l, c.captured, c.estimated, addOffset c.captured y.cfg.horizonOffset,
      y.cfg.snapshot⟩ := by rw [State.newItem, lane]
  have written : ∀ t : Table, State.putLaneState { s.putLane l y with table := t } l (.occupied
      (y.cfg.capture s.table.tagToUse c)) =
      { s.putLane l { y with state := .occupied (y.cfg.capture s.table.tagToUse c) } with table := t } := fun t => by
    have back := State.putLaneState_putLane { s with table := t } l y (.occupied (y.cfg.capture s.table.tagToUse c))
    exact back
  rw [State.askRecord, if_pos fits, lane, item]
  refine (written _).trans ?_
  rw [← succTag_eq]
  rfl

/-- An absent edge in BLOCKED clears the lane (R47). -/
theorem State.confirmEdge_blocked_absent (why : BlockedCause) (h : (s.lane l).state = .blocked why)
    (absent : c.level ≠ (s.lane l).cfg.present) :
    s.confirmEdge l c = s.putLane l { s.confirmedLane l c with state := .clear } := by
  unfold State.confirmEdge
  rw [h]
  simp only [beq_eq_false_iff_ne.mpr absent]
  exact s.putLaneState_putLane l _ _

/-- A present edge in BLOCKED is only confirmed (R47). -/
theorem State.confirmEdge_blocked_present (why : BlockedCause) (h : (s.lane l).state = .blocked why)
    (present : c.level = (s.lane l).cfg.present) : s.confirmEdge l c = s.putLane l (s.confirmedLane l c) := by
  unfold State.confirmEdge
  rw [h]
  simp only [beq_iff_eq.mpr present]
  rfl

/-- A present edge in OCCUPIED is only confirmed (R37). -/
theorem State.confirmEdge_occupied_present (o : OpenCapture) (h : (s.lane l).state = .occupied o)
    (present : c.level = (s.lane l).cfg.present) : s.confirmEdge l c = s.putLane l (s.confirmedLane l c) := by
  unfold State.confirmEdge
  rw [h]
  simp only [beq_iff_eq.mpr present]
  rfl

/-- An absent edge in OCCUPIED closes the item, or discards it as SHORT (R43). -/
theorem State.confirmEdge_occupied_absent (o : OpenCapture) (h : (s.lane l).state = .occupied o)
    (absent : c.level ≠ (s.lane l).cfg.present) :
    s.confirmEdge l c =
      let s1 := s.putLane l { s.confirmedLane l c with state := .clear }
      if comesAfter c.captured o.leading && o.minLength ≤ (c.captured - o.leading).toNat then
        s1.closeItem o.tag c.captured (c.captured - o.leading).toNat o.exitOffset false (o.estimated || c.estimated)
      else s1.discard o.tag .short := by
  unfold State.confirmEdge
  rw [h]
  simp only [beq_eq_false_iff_ne.mpr absent]
  change State.closeByEdge (s.putLane l (s.confirmedLane l c)) l o c = _
  rw [State.closeByEdge, s.putLaneState_putLane]

end edge

/-- When an item is kept at its trailing edge (R43). -/
theorem kept_iff (captured leading : Pos) (minLength : Nat) :
    (comesAfter captured leading && decide (minLength ≤ (captured - leading).toNat)) = true ↔
      1 ≤ (captured - leading).toNat ∧ (captured - leading).toNat < 2147483648 ∧
        minLength ≤ (captured - leading).toNat := by
  simp [comesAfter, and_assoc]

/-! ### The other ways an item ends at its lane (R44, R45, R55) -/

/-- The closing of an item at its max-length point (R44). -/
theorem State.closeByLength_closed (s : State) (l : Fin 8) (o : OpenCapture) (r : ItemRecord) (up : Update)
    (ho : (s.lane l).state = .occupied o) (hr : s.record? o.tag = some r) (hp : r.progress = .entering) :
    ∃ u, Closed s r ⟨o.leading + BitVec.ofNat 32 o.maxLength, o.maxLength,
          o.leading + BitVec.ofNat 32 o.maxLength + BitVec.ofNat 32 o.exitOffset⟩ true
        (o.estimated || (up.source == .estimate || up.source == .confirming)) u ∧
      State.closeByLength up s l = (u.putLane l { s.lane l with state := .blocked .length }).occur .eyeBlocked := by
  have tag : r.tag = o.tag := State.tag_of_record? hr
  rw [← tag] at hr
  refine ⟨_, s.closeItem_closed r (o.leading + BitVec.ofNat 32 o.maxLength) o.maxLength o.exitOffset true _ hr hp, ?_⟩
  unfold State.closeByLength
  rw [ho]
  dsimp only
  rw [State.putLaneState, State.lane_closeItem, tag, SourceKind.estimates_eq]
  rfl

/-- The Lane Inputs take an update: what is too long is closed, in an open order (R12, R44). -/
theorem State.lanesUpdate_eq (s : State) (up : Update) : ∃ (ls : List (Fin 8)) (o : List Nat),
    ls.Perm (allLanes.filter (fun k => (s.lane k).tooLong up.position)) ∧
    State.lanesUpdate up s = ls.foldl (State.closeByLength up) { s with
      lanes := { s.lanes with position := up.position, motion := up.motion, source := up.source }, order := o } := by
  let s1 : State := { s with lanes := { s.lanes with position := up.position, motion := up.motion, source := up.source } }
  let due := allLanes.filter (fun k => (s1.lane k).tooLong up.position)
  obtain ⟨o, ho⟩ := s1.settle_snd due
  have updated : State.lanesUpdate up s = (s1.settle due).1.foldl (State.closeByLength up) (s1.settle due).2 := rfl
  refine ⟨(s1.settle due).1, o, s1.settle_perm due, ?_⟩
  rw [updated, ho]

/-- The Lane Inputs take an entry into REVERSE: what is entering is abandoned, in an open order (R45). -/
theorem State.lanesMotion_reverse (s : State) : ∃ (ls : List (Fin 8)) (o : List Nat),
    ls.Perm (allLanes.filter (fun k => (s.lane k).isOccupied)) ∧
    s.lanesMotion .reverse =
      ls.foldl State.abandonByReversal { s with lanes := { s.lanes with motion := .reverse }, order := o } := by
  let s1 : State := { s with lanes := { s.lanes with motion := .reverse } }
  let due := allLanes.filter (fun k => (s1.lane k).isOccupied)
  obtain ⟨o, ho⟩ := s1.settle_snd due
  have taken : s.lanesMotion .reverse = (s1.settle due).1.foldl State.abandonByReversal (s1.settle due).2 := rfl
  refine ⟨(s1.settle due).1, o, s1.settle_perm due, ?_⟩
  rw [taken, ho]

/-- Any other motion change is only held by the Lane Inputs (R46). -/
theorem State.lanesMotion_other (s : State) (new : Motion) (h : new ≠ .reverse) :
    s.lanesMotion new = { s with lanes := { s.lanes with motion := new } } := by
  rw [State.lanesMotion]
  dsimp only
  rw [if_neg h]

/-- An item is abandoned by a reversal, and its lane follows the eye (R45). -/
theorem State.abandonByReversal_occupied (s : State) (l : Fin 8) (o : OpenCapture)
    (h : (s.lane l).state = .occupied o) : s.abandonByReversal l = (s.putLane l { s.lane l with
      state := if (s.lane l).confirmed = (s.lane l).cfg.present then .blocked .reversal else .clear }).discard o.tag
        .abandoned := by
  unfold State.abandonByReversal Lane.eyePresent
  rw [h]
  simp only [beq_iff_eq]
  rfl

/-- The record of a discard leaves the table (R55). -/
theorem State.discard_entering (s : State) (tag : Nat) (why : DiscardReason) (r : ItemRecord)
    (hr : s.record? tag = some r) (hp : r.progress = .entering) : s.discard tag why =
      ({ s with table := { s.table with records := s.table.records.filter (fun r' => r'.tag != tag) } }).offer
        (.itemDiscarded r.lane tag why) := by
  unfold State.discard
  rw [hr]
  dsimp only
  rw [hp]
  rfl

/-- A discard without an ENTERING record does nothing (R55). -/
theorem State.discard_none (s : State) (tag : Nat) (why : DiscardReason)
    (h : ∀ r : ItemRecord, s.record? tag = some r → r.progress ≠ .entering) : s.discard tag why = s := by
  unfold State.discard
  split
  · rename_i r hr
    split
    · rename_i hp; exact absurd hp (h r hr)
    · rfl
  · rfl

/-- Settles O38: a law of `confirmEdge` for each lane state and edge, and the other ways an item ends. -/
theorem confirmedEdgeMakesAndClosesItems : Obligations.ConfirmedEdgeMakesAndClosesItems := by
  intro s l x
  have none : x.candidate = none → exec (.debounceExpiry l) s = .next s := fun h => by
    change Host.Outcome.next (s.debounce l) = _
    rw [State.debounce, h]
  refine ⟨none, fun c hc => ?_, fun o r up ho hr hp => s.closeByLength_closed l o r up ho hr hp,
    fun up => s.lanesUpdate_eq up, fun o ho => s.abandonByReversal_occupied l o ho,
    fun new => ⟨s.lanesMotion_other new, fun h => h ▸ s.lanesMotion_reverse⟩,
    fun tag why => ⟨s.discard_entering tag why, s.discard_none tag why⟩⟩
  have confirmed : ∀ u, s.confirmEdge l c = u → exec (.debounceExpiry l) s = .next u := fun u h => by
    change Host.Outcome.next (s.debounce l) = _
    rw [State.debounce, hc, ← h]
  refine ⟨fun h => confirmed _ (State.confirmEdge_off c h),
    fun h absent => confirmed _ (s.confirmEdge_clear_absent l c h absent),
    fun h present reverse => confirmed _ (s.confirmEdge_clear_reverse l c h present reverse),
    fun h present forward full => confirmed _ ?_, fun h present forward room => confirmed _ ?_,
    fun why h absent => confirmed _ (s.confirmEdge_blocked_absent l c why h absent),
    fun why h present => confirmed _ (s.confirmEdge_blocked_present l c why h present),
    fun o h present => confirmed _ (s.confirmEdge_occupied_present l c o h present),
    fun o h absent => ⟨fun short => confirmed _ ?_, fun r kept hr hp => ?_⟩⟩
  · rw [s.confirmEdge_clear_asks l c h present forward, s.askRecord_full l c _ full]
    rfl
  · rw [s.confirmEdge_clear_asks l c h present forward, s.askRecord_room l c _ room]
    rfl
  · rw [s.confirmEdge_occupied_absent l c o h absent]
    exact if_neg (fun k => short ((kept_iff _ _ _).mp k))
  · have tag : r.tag = o.tag := State.tag_of_record? hr
    rw [← tag] at hr
    refine ⟨_, State.closeItem_closed (s.putLane l { s.confirmedLane l c with state := .clear }) r c.captured _
      o.exitOffset false _ hr hp, confirmed _ ?_⟩
    rw [s.confirmEdge_occupied_absent l c o h absent, tag]
    exact if_pos ((kept_iff _ _ _).mpr kept)

end Sys2Proof.Machine
end

section
/-! PROOFS. The Line Controller: ARM, DISARM and the entry into HALTED (R144 to R149). -/

namespace Sys2Proof.Machine

/-! ### ARM (R144, R145) -/

/-- The source is LOST exactly when it is handed as LOST (R26). -/
theorem Source.kind_eq_lost (x : Source) : x.kind = .lost ↔ x = .lost := by
  cases x <;> simp [Source.kind]

/-- A lane after ARM: active if it is enabled (R38, R145). -/
def Lane.armed (x : Lane) : Lane :=
  if x.cfg.enabled then
    { x with state := if x.confirmed = x.cfg.present then .blocked .activation else .clear }
  else x

/-- ARM's turn of one lane writes that lane (R145). -/
theorem State.activateIfEnabled_eq (s : State) (l : Fin 8) : s.activateIfEnabled l = s.putLane l (s.lane l).armed := by
  have same : s.putLane l (s.lane l) = s := by
    have lanes : s.lanes.lanes.set l (s.lane l) = s.lanes.lanes := Vector.set_getElem_self _
    rw [State.putLane, lanes]
  unfold State.activateIfEnabled Lane.armed
  split
  · simp only [State.activateLane, State.putLaneState, Lane.eyePresent, beq_iff_eq]
  · exact same.symm

/-- The part with its enabled lanes active (R145). -/
def State.activated (s : State) : State := allLanes.foldl State.activateIfEnabled (s.putLine .armed)

/-- Each lane after ARM. -/
theorem State.lane_activated (s : State) (l : Fin 8) : s.activated.lane l = (s.lane l).armed :=
  foldl_allLanes (get := State.lane) (f := State.activateIfEnabled) (g := fun _ => Lane.armed)
    (fun t k => by rw [State.activateIfEnabled_eq, State.lane_putLane_self])
    (fun t k m h => by rw [State.activateIfEnabled_eq, State.lane_putLane, if_neg h]) (s.putLine .armed) l

/-- ARM writes the line state and the lanes, and nothing else (R145). -/
theorem State.activated_eq (s : State) : s.activated =
    { s with ctrl := { s.ctrl with line := .armed }, lanes := { s.lanes with lanes := s.activated.lanes.lanes } } := by
  obtain ⟨ls, h⟩ : ∃ ls, s.activated =
      { s with ctrl := { s.ctrl with line := .armed }, lanes := { s.lanes with lanes := ls } } := by
    refine foldl_keeps (f := State.activateIfEnabled) (P := fun t : State => ∃ ls, t =
      { s with ctrl := { s.ctrl with line := .armed }, lanes := { s.lanes with lanes := ls } }) ?_ allLanes _
      ⟨s.lanes.lanes, rfl⟩
    rintro t l ⟨ls, h⟩
    exact ⟨_, by rw [State.activateIfEnabled_eq, State.putLane, h]⟩
  rw [h]

/-- ARM in CONFIG with a source and a lane answers how many lanes it made active, and how many with their eye present
(R145). -/
theorem runArm_accepted (s : State) (l0 : Fin 8) (line : s.ctrl.line = .config) (source : s.belt.source ≠ .lost)
    (enabled : (s.lane l0).cfg.enabled = true) : runArm s =
      ⟨s.activated.offer (.lineState .armed 0 0),
        [0] ++ put8 (allLanes.countP (fun l => (s.lane l).cfg.enabled)) ++
          put8 (allLanes.countP (fun l => (s.lane l).cfg.enabled && (s.lane l).confirmed == (s.lane l).cfg.present)),
        .nothing⟩ := by
  have some' : ¬ s.enabledLanes.isEmpty = true := by
    rw [List.isEmpty_iff]
    intro none
    have mem : l0 ∈ s.enabledLanes := List.mem_filter.mpr ⟨mem_allLanes l0, enabled⟩
    rw [none] at mem
    cases mem
  have enabledCount : s.enabledLanes.length = allLanes.countP (fun l => (s.lane l).cfg.enabled) := by
    rw [State.enabledLanes, ← List.countP_eq_length_filter]
  have present : (s.enabledLanes.filter (fun l => (s.lane l).eyePresent)).length =
      allLanes.countP (fun l => (s.lane l).cfg.enabled && (s.lane l).confirmed == (s.lane l).cfg.present) := by
    rw [State.enabledLanes, List.filter_filter, ← List.countP_eq_length_filter]
    exact List.countP_congr fun l _ => by simp [Lane.eyePresent, and_comm]
  rw [runArm, if_neg (not_not_intro line), if_neg (fun h => source ((Source.kind_eq_lost _).mp h)), if_neg some', present,
    enabledCount]
  rfl

/-- Settles O18: line state, source and lanes are looked at in this order, and ARM writes line state and lanes alone. -/
theorem armChecksThenActivatesTheEnabledLanes : Obligations.ArmChecksThenActivatesTheEnabledLanes := by
  have answer : ∀ (s : State) (tag : Byte) (a : Answer), s.linkReady → runArm s = a →
      exec (.arm tag []) s = .next (a.state.withReply 0x98 tag a.body a.after) := fun s tag a hready h => by
    have answered := exec_known (.arm tag []) .arm tag [] s rfl rfl hready
    rwa [handRequest, h] at answered
  refine ⟨fun s tag hready line => answer s tag (s.refuse .state) hready ?_,
    fun s tag hready line lost => answer s tag (s.refuse .state) hready ?_,
    fun s tag hready line source none => answer s tag (s.refuse .badValue) hready ?_,
    fun s tag l0 hready line source enabled => ⟨s.activated, s.activated_eq, s.lane_activated,
      answer s tag _ hready (runArm_accepted s l0 line source enabled)⟩⟩
  · rw [runArm, if_pos line]
  · rw [runArm, if_neg (not_not_intro line), if_pos ((Source.kind_eq_lost _).mpr lost)]
  · have empty : s.enabledLanes.isEmpty = true := by
      rw [List.isEmpty_iff, State.enabledLanes, List.filter_eq_nil_iff]
      intro l _
      rw [none l]
      decide
    rw [runArm, if_neg (not_not_intro line), if_neg (fun h => source ((Source.kind_eq_lost _).mp h)), if_pos empty]

/-! ### DISARM and HALTED (R146, R148, R149) -/

/-- Leaving ARMED with a new line state leaves all that the line leaves (R146, R149). -/
theorem State.leftArmed_putLine (s : State) (line : LineState) : LeftArmed s (s.putLine line).leaveArmed := by
  have left := (s.putLine line).leftArmed
  exact ⟨left.lanes, left.lanesHanded, left.valves, left.drive, left.queues, left.schedule, left.table, left.rest⟩

/-- Leaving ARMED leaves the Line Controller but for the line state. -/
theorem State.ctrl_leaveArmed_putLine (s : State) (line : LineState) :
    (s.putLine line).leaveArmed.ctrl = { s.ctrl with line := line } := by
  have kept : (s.putLine line).leaveArmed.ctrl = (s.putLine line).ctrl := by simp
  exact kept

/-- Settles O19: the reply counts what the line held before it was emptied. -/
theorem disarmEmptiesTheLine : Obligations.DisarmEmptiesTheLine := by
  refine ⟨fun s tag hready line => ?_, fun s tag hready line =>
    ⟨(s.putLine .config).leaveArmed, s.leftArmed_putLine .config, s.ctrl_leaveArmed_putLine .config, ?_⟩⟩
  · have answered := exec_known (.disarm tag []) .disarm tag [] s rfl rfl hready
    rw [handRequest, runDisarm, if_pos line] at answered
    exact answered
  · have answered := exec_known (.disarm tag []) .disarm tag [] s rfl rfl hready
    rw [handRequest, runDisarm, if_neg line, State.disarmLine] at answered
    exact answered

/-- A halt of an ARMED line leaves ARMED before its flag and its notice (R149). -/
theorem State.halt_armed (s : State) (why : HaltCause) (armed : s.ctrl.line = .armed) :
    ∃ u : State, LeftArmed s u ∧ u.ctrl = { s.ctrl with line := .halted why } ∧
      s.halt why =
        (u.occur .trackHalt).offer (.lineState (.halted why) s.table.records.length s.slotsInUse) :=
  ⟨(s.putLine (.halted why)).leaveArmed, s.leftArmed_putLine _, s.ctrl_leaveArmed_putLine _, if_pos armed⟩

/-- A halt does nothing to a line that is not ARMED (R150). -/
theorem State.halt_other (s : State) (why : HaltCause) (h : s.ctrl.line ≠ .armed) : s.halt why = s := if_neg h

/-- What an entry into LOST brings about, by the halt cause it has (R148). -/
theorem State.takeLost_eq (s : State) (cause : LostCause) (why : HaltCause)
    (h : haltCauseOf cause s.belt.run = some why) : s.takeLost cause = s.halt why := by
  rw [State.takeLost, h]

/-- An entry into LOST that halts nothing (R148). -/
theorem State.takeLost_none (s : State) (cause : LostCause) (h : haltCauseOf cause s.belt.run = none) :
    s.takeLost cause = s := by
  rw [State.takeLost, h]

/-- Settles O20: the halt cause decides whether the line halts, and a halt leaves ARMED before its flag and its notice. -/
theorem haltingSourceEventsHaltAnArmedLine : Obligations.HaltingSourceEventsHaltAnArmedLine := by
  intro s
  refine ⟨fun armed => ⟨s.halt_armed .limit armed, s.halt_armed .loss armed, s.halt_armed .silence armed, rfl,
    fun run => ?_, fun run => ?_⟩, fun other => ⟨fun cause => ?_, s.halt_other .silence other⟩⟩
  · rw [s.takeLost_eq .gap .gap (by rw [run]; rfl)]
    exact s.halt_armed .gap armed
  · exact s.takeLost_none .gap (by rw [run]; rfl)
  · cases hwhy : haltCauseOf cause s.belt.run with
    | none => exact s.takeLost_none cause hwhy
    | some why => rw [s.takeLost_eq cause why hwhy, s.halt_other why other]

end Sys2Proof.Machine
end

section
/-! PROOFS. Encoder samples (R7 to R9) and what one count does to motion, speed and source (R11 to R15, R18, R19, R22 to
R25). -/

namespace Sys2Proof.Machine

/-! ### Samples (R7, R8) -/

/-- The forward order of the statement is the pair after each pair (R7). -/
theorem mem_forwardSteps_iff (r p : EncPair) : (r, p) ∈ ForwardSteps ↔ p = r.next := by
  obtain ⟨ra, rb⟩ := r
  obtain ⟨pa, pb⟩ := p
  cases ra <;> cases rb <;> cases pa <;> cases pb <;> decide

/-- A pair is not its own next, nor the next but one (R7). -/
theorem EncPair.next_ne (p : EncPair) : p.next ≠ p ∧ p.next.next ≠ p := by
  obtain ⟨a, b⟩ := p
  cases a <;> cases b <;> decide

/-- With both inputs changed, neither pair is the next of the other (R7). -/
theorem EncPair.next_of_both {r p : EncPair} (ha : r.a ≠ p.a) (hb : r.b ≠ p.b) : p ≠ r ∧ p ≠ r.next ∧ r ≠ p.next := by
  obtain ⟨ra, rb⟩ := r
  obtain ⟨pa, pb⟩ := p
  revert ha hb
  cases ra <;> cases rb <;> cases pa <;> cases pb <;> decide

section sample

variable {s : State} {r p : EncPair}

/-- In TIMED the inputs are not sampled (R9). -/
theorem State.sampleEncoder_timed (h : s.belt.par.mode = .timed) :
    s.sampleEncoder p = { s with pins := { s.pins with enc := p } } := by
  simp only [State.sampleEncoder, h]

/-- Without a reference the pair becomes it (R7, R8). -/
theorem State.sampleEncoder_first (h : s.belt.par.mode ≠ .timed) (hr : s.belt.encRef = none) :
    s.sampleEncoder p = s.putReference p := by
  cases hm : s.belt.par.mode with
  | timed => exact absurd hm h
  | quadrature => simp only [State.sampleEncoder, hm, hr]
  | pulseDir => simp only [State.sampleEncoder, hm, hr]

/-- A quadrature sample against its reference (R7). -/
theorem State.sampleEncoder_quadrature (h : s.belt.par.mode = .quadrature) (hr : s.belt.encRef = some r) :
    s.sampleEncoder p =
      if p = r then s.putReference p
      else if p = r.next then (s.putReference p).takeCount .forward
      else if r = p.next then (s.putReference p).takeCount .reverse
      else (s.putReference p).occur .encPhase := by
  simp only [State.sampleEncoder, h, hr]

/-- A pulse sample against its reference (R8). -/
theorem State.sampleEncoder_pulseDir (h : s.belt.par.mode = .pulseDir) (hr : s.belt.encRef = some r) :
    s.sampleEncoder p =
      if r.a = .low ∧ p.a = .high then (s.putReference p).takeCount (if p.b = .low then .forward else .reverse)
      else s.putReference p := by
  simp only [State.sampleEncoder, h, hr]

/-- Without a rise of ENC_A a pulse sample counts nothing (R8). -/
theorem State.sampleEncoder_noPulse (h : s.belt.par.mode = .pulseDir)
    (hr : ∀ r, s.belt.encRef = some r → ¬ (r.a = .low ∧ p.a = .high)) : s.sampleEncoder p = s.putReference p := by
  cases href : s.belt.encRef with
  | none => exact State.sampleEncoder_first (by rw [h]; decide) href
  | some r => rw [State.sampleEncoder_pulseDir h href, if_neg (hr r href)]

end sample

/-- Settles O25: a quadrature sample by the place of its pair behind the reference's (R7). -/
theorem quadratureSampleCountsOneStep : Obligations.QuadratureSampleCountsOneStep := by
  intro s a b i hi
  have runs : exec i s = .next (s.sampleEncoder ⟨a, b⟩) := by
    rcases hi with rfl | rfl
    · rfl
    · rfl
  rw [runs]
  refine ⟨fun hm hr => ?_, fun r hm hr => ⟨fun same => ?_, fun ahead => ?_, fun behind => ?_, fun ha hb => ?_⟩,
    fun hm => congrArg _ (State.sampleEncoder_timed hm)⟩
  · rw [State.sampleEncoder_first (by rw [hm]; decide) hr]
    rfl
  · rw [State.sampleEncoder_quadrature hm hr, if_pos same.symm]
    rfl
  · have next := (mem_forwardSteps_iff _ _).mp ahead
    rw [State.sampleEncoder_quadrature hm hr, if_neg (next ▸ r.next_ne.1), if_pos next]
    rfl
  · have next := (mem_forwardSteps_iff _ _).mp behind
    obtain ⟨notSelf, notBack⟩ := EncPair.next_ne ⟨a, b⟩
    rw [State.sampleEncoder_quadrature hm hr, if_neg (by rw [next]; exact notSelf.symm),
      if_neg (by rw [next]; exact notBack.symm), if_pos next]
    rfl
  · obtain ⟨notSame, notAhead, notBehind⟩ := EncPair.next_of_both (r := r) (p := ⟨a, b⟩) ha hb
    rw [State.sampleEncoder_quadrature hm hr, if_neg notSame, if_neg notAhead, if_neg notBehind]
    rfl

/-- Settles O26: a pulse sample by the level of ENC_A before it (R8). -/
theorem pulseDirSampleCountsRisingEncA : Obligations.PulseDirSampleCountsRisingEncA := by
  intro s b
  have rise : exec (.pulseDirCount b) s = .next (s.sampleEncoder ⟨.high, b⟩) := rfl
  have fall : exec (.fallingEncA b) s = .next (s.sampleEncoder ⟨.low, b⟩) := rfl
  rw [rise, fall]
  refine ⟨fun r hm hr low => ?_, fun r hm hr high => ?_, fun hm hr => ?_, fun hm => ?_, fun hm => ?_⟩
  · rw [State.sampleEncoder_pulseDir hm hr, if_pos ⟨low, rfl⟩]
    rfl
  · refine congrArg _ (State.sampleEncoder_noPulse hm fun q hq rises => ?_)
    cases hr.symm.trans hq
    exact absurd (high.symm.trans rises.1) (by decide)
  · exact congrArg _ (State.sampleEncoder_first (by rw [hm]; decide) hr)
  · exact congrArg _ (State.sampleEncoder_noPulse hm fun q _ rises => nomatch rises.2)
  · exact ⟨congrArg _ (State.sampleEncoder_timed hm), congrArg _ (State.sampleEncoder_timed hm)⟩

/-! ### The motion of a count (R14, R15) -/

/-- Moving the position and feeding the accumulator touch different fields (R11, R14). -/
theorem Belt.feed_move (b : Belt) (d e : Dir) : (b.move d).feed e = (b.feed e).move d := by
  obtain ⟨_, _, _, _, _, _, _, motion, _⟩ := b
  cases motion <;> cases e <;> simp only [Belt.feed, Belt.move] <;> split <;> simp only [*, ↓reduceIte]

/-- A count in the CONFIRMING of a source leaves the motion and the accumulator (R22, R23, R25). -/
theorem Belt.motion_confirm (b : Belt) : b.confirm.motion = b.motion ∧ b.confirm.acc = b.acc := by
  unfold Belt.confirm
  repeat' split
  all_goals exact ⟨rfl, rfl⟩

/-- Of all that an encoder count does to the belt, only the accumulator decides the motion (R14, R15). -/
theorem Belt.motion_encoderCount (b : Belt) (d : Dir) (now : Nat) :
    (b.encoderCount d now).motion = (b.feed d).motion ∧ (b.encoderCount d now).acc = (b.feed d).acc := by
  obtain ⟨motion, acc⟩ := Belt.motion_confirm (((b.move d).feed d).time d now)
  rw [Belt.feed_move] at motion acc
  unfold Belt.encoderCount
  rw [Belt.feed_move]
  exact ⟨motion, acc⟩

/-- The position and the motion that the Lane Inputs, the Tracking Table and the Action Schedule hold. -/
def State.held (s : State) : (Pos × Motion) × (Pos × Motion) × (Pos × Motion) :=
  ((s.lanes.position, s.lanes.motion), (s.table.position, s.table.motion), (s.sched.position, s.sched.motion))

/-- What hands nothing leaves what they hold. -/
theorem HandedSame.held {s t : State} (h : HandedSame s t) : t.held = s.held := by
  obtain ⟨position, motion, _⟩ := h.lanes
  rw [State.held, h.table, h.sched, position, motion]
  rfl

/-- An update taken by the Lane Inputs (R12). -/
theorem State.held_lanesUpdate (s : State) (u : Update) :
    (s.lanesUpdate u).held = ((u.position, u.motion), s.held.2) := (handedSame_lanesUpdate u s).held

/-- An update taken by the Tracking Table (R12). -/
theorem State.held_tableUpdate (s : State) (u : Update) :
    (s.tableUpdate u).held = (s.held.1, (u.position, u.motion), s.held.2.2) := (handedSame_tableUpdate u s).held

/-- An update taken by the Action Schedule (R12). -/
theorem State.held_driveUpdate (s : State) (u : Update) :
    (s.driveUpdate u).held = (s.held.1, s.held.2.1, (u.position, u.motion)) := (handedSame_driveUpdate u s).held

/-- After an update all three hold the belt's position and motion, in whatever order they took it (R12). -/
theorem State.held_handUpdate (s : State) (k : UpdateKind) : (s.handUpdate k).held =
    ((s.belt.position, s.belt.motion), (s.belt.position, s.belt.motion), (s.belt.position, s.belt.motion)) := by
  unfold State.handUpdate
  dsimp only
  split <;> simp only [State.held_lanesUpdate, State.held_tableUpdate, State.held_driveUpdate, Belt.update]

/-- The accumulator below its threshold reaches it with a count exactly when the count makes them equal (R14, R15). -/
theorem Belt.accWf.reaches {b : Belt} (h : b.accWf) :
    ((b.par.reversal : Int) ≤ b.acc + 1 ↔ b.acc + 1 = b.par.reversal) ∧
      (b.acc - 1 ≤ -(b.par.reversal : Int) ↔ b.acc - 1 = -(b.par.reversal : Int)) := by
  obtain ⟨below, above, _⟩ := h
  omega

/-- The accumulator in each motion state and direction (R14, R15). -/
theorem Belt.feed_cases (b : Belt) (h : b.accWf) :
    (b.motion = .stopped → b.feed .forward = if b.acc + 1 = b.par.reversal then { b with motion := .forward, acc := 0 }
      else { b with acc := b.acc + 1 }) ∧
    (b.motion = .stopped → b.feed .reverse = if b.acc - 1 = -(b.par.reversal : Int) then
      { b with motion := .reverse, acc := 0 } else { b with acc := b.acc - 1 }) ∧
    (b.motion = .forward → b.feed .reverse = if b.acc + 1 = b.par.reversal then { b with motion := .reverse, acc := 0 }
      else { b with acc := b.acc + 1 }) ∧
    (b.motion = .reverse → b.feed .forward = if b.acc + 1 = b.par.reversal then { b with motion := .forward, acc := 0 }
      else { b with acc := b.acc + 1 }) := by
  obtain ⟨up, down⟩ := h.reaches
  refine ⟨fun hm => ?_, fun hm => ?_, fun hm => ?_, fun hm => ?_⟩
  all_goals simp only [Belt.feed, hm, up, down]

/-- Travel along the motion lowers the accumulator, but not below 0 (R15). -/
theorem Belt.feed_along (b : Belt) (d : Dir)
    (along : (b.motion, d) = (.forward, .forward) ∨ (b.motion, d) = (.reverse, .reverse)) :
    b.feed d = { b with acc := if 0 < b.acc then b.acc - 1 else b.acc } := by
  simp only [Prod.mk.injEq] at along
  rcases along with ⟨hm, rfl⟩ | ⟨hm, rfl⟩
  all_goals
    simp only [Belt.feed, hm]
    rw [← hm]
    split <;> rfl

/-- Settles O28: the cases of the accumulator, which the belt's invariant keeps at most one count from its threshold
(R14, R15). -/
theorem accumulatorDecidesTheMotion : Obligations.AccumulatorDecidesTheMotion := by
  intro s d hacc hr t threshold
  obtain ⟨motion, acc⟩ := Belt.motion_encoderCount s.belt d s.now
  have belt : t.belt = s.belt.encoderCount d s.now := State.belt_countEncoder s d
  have held : t.held = ((t.belt.position, t.belt.motion), (t.belt.position, t.belt.motion),
      (t.belt.position, t.belt.motion)) := by
    rw [belt]
    exact (State.held_handUpdate _ .encoder).trans (by simp)
  simp only [State.held, Prod.mk.injEq] at held
  obtain ⟨⟨_, lanes⟩, ⟨_, table⟩, ⟨_, sched⟩⟩ := held
  obtain ⟨startForward, startReverse, turnReverse, turnForward⟩ := Belt.feed_cases s.belt hacc
  obtain ⟨_, _, moving⟩ := hacc
  refine ⟨lanes, sched, table, ?_⟩
  rw [belt, motion, acc]
  refine ⟨fun hm hd => ?_, fun hm hd => ?_, fun hm hd => ?_, fun hm hd => ?_, fun hm hd => ?_, fun hm hd => ?_⟩
  all_goals subst hd
  · rw [startForward hm]
    exact ⟨fun reached => by rw [if_pos reached]; exact ⟨rfl, rfl⟩, fun short => by rw [if_neg short]; exact ⟨hm, rfl⟩⟩
  · rw [startReverse hm]
    exact ⟨fun reached => by rw [if_pos reached]; exact ⟨rfl, rfl⟩, fun short => by rw [if_neg short]; exact ⟨hm, rfl⟩⟩
  · rw [Belt.feed_along _ _ (.inl (by rw [hm]))]
    refine ⟨hm, ?_⟩
    have := moving (by rw [hm]; decide)
    dsimp only
    split <;> omega
  · rw [turnReverse hm]
    exact ⟨fun reached => by rw [if_pos reached]; exact ⟨rfl, rfl⟩, fun short => by rw [if_neg short]; exact ⟨hm, rfl⟩⟩
  · rw [Belt.feed_along _ _ (.inr (by rw [hm]))]
    refine ⟨hm, ?_⟩
    have := moving (by rw [hm]; decide)
    dsimp only
    split <;> omega
  · rw [turnForward hm]
    exact ⟨fun reached => by rw [if_pos reached]; exact ⟨rfl, rfl⟩, fun short => by rw [if_neg short]; exact ⟨hm, rfl⟩⟩

/-! ### Speed (R18, R19) -/

/-- Feeding a count to the accumulator writes the motion and the accumulator alone (R14, R15). -/
theorem Belt.feed_writes (b : Belt) (d : Dir) :
    b.feed d = { b with motion := (b.feed d).motion, acc := (b.feed d).acc } := by
  unfold Belt.feed
  repeat' split
  all_goals rfl

/-- An encoder count up to the source: the belt whose CONFIRMING and timers it then acts on (R11, R14, R18). -/
def Belt.travelled (b : Belt) (d : Dir) (now : Nat) : Belt :=
  { b with position := (b.move d).position, motion := (b.feed d).motion, acc := (b.feed d).acc,
           history := (b.time d now).history, last := some ⟨d, now⟩ }

/-- An encoder count is travel and timing, and then the source and its timers (R11 to R25). -/
theorem Belt.encoderCount_eq (b : Belt) (d : Dir) (now : Nat) :
    b.encoderCount d now = (b.travelled d now).confirm.restartStop.restartLoss := by
  unfold Belt.encoderCount Belt.travelled
  rw [Belt.feed_move, Belt.feed_writes]
  rfl

/-- The source of a count touches neither the intervals nor the last count (R22, R23, R25). -/
theorem Belt.history_confirm (b : Belt) : b.confirm.history = b.history ∧ b.confirm.last = b.last := by
  unfold Belt.confirm
  repeat' split
  all_goals exact ⟨rfl, rfl⟩

/-- Settles O29: the interval of a count, the measured speed and the speed of each source (R18, R19, Table 1-4). -/
theorem countsAreTimedForTheSpeed : Obligations.CountsAreTimedForTheSpeed := by
  refine ⟨fun s d => ?_, fun h hsum => ?_, rfl, fun h hne hsum => ?_, fun b =>
    ⟨fun hm => ?_, fun hm hs => ?_, fun hm hs => ?_, fun hm hs => ?_, fun c hm hs ho => ?_, fun c hm hs => ?_,
      fun c hm hs ho => ?_⟩⟩
  · obtain ⟨history, last⟩ := Belt.history_confirm (s.belt.travelled d s.now)
    have counted : (s.countEncoder d).belt.history = (s.belt.time d s.now).history ∧
        (s.countEncoder d).belt.last = some ⟨d, s.now⟩ := by
      rw [State.belt_countEncoder, Belt.encoderCount_eq]
      exact ⟨history, last⟩
    obtain ⟨history, last⟩ := counted
    refine ⟨last, fun l hl same => ?_, fun l hl other => ?_, fun none => ?_⟩
    · rw [history]
      simp only [Belt.time, hl, same, if_true, pushInterval]
      congr 1
      by_cases short : s.belt.history.length < 8
      · exact (if_neg (Nat.not_le.mpr short)).trans (if_pos short).symm
      · exact (if_pos (Nat.not_lt.mp short)).trans (if_neg short).symm
    · rw [history]
      simp only [Belt.time, hl, if_neg other]
    · rw [history]
      simp only [Belt.time, none]
  · have nonempty : h.length ≠ 0 := fun e => by
      rw [List.length_eq_zero_iff.mp e] at hsum
      exact absurd hsum (by decide)
    unfold measuredSpeed
    rw [if_neg nonempty, if_neg (Nat.pos_iff_ne_zero.mp hsum)]
  · unfold measuredSpeed
    rw [if_neg (fun e => hne (List.length_eq_zero_iff.mp e)), if_pos hsum]
  · simp only [Belt.speed, hm]
  · cases h : b.motion with
    | stopped => exact absurd h hm
    | forward => simp only [Belt.speed, hs, h]
    | reverse => simp only [Belt.speed, hs, h]
  all_goals simp only [Belt.speed, *]

end Sys2Proof.Machine
end

section
/-! PROOFS. What an event of the belt cannot change (the frame of the statements), operation by operation: items, lanes,
valves, and what the Belt Position Unit hands (R12, R17, R26). -/

namespace Sys2Proof.Machine

/-! ### The frame -/

/-- Nothing has happened. -/
theorem Framed.refl (s : State) (fs : List FaultFlag) : Framed s s fs :=
  ⟨rfl, fun _ => rfl, .refl _, fun _ _ _ => rfl, rfl, ⟨rfl, rfl⟩, fun _ => rfl, fun _ => rfl, ⟨rfl, rfl⟩, ⟨rfl, rfl⟩⟩

/-- One thing after the other. -/
theorem Framed.trans {s t u : State} {fs : List FaultFlag} (h : Framed s t fs) (g : Framed t u fs) : Framed s u fs where
  link := by rw [g.link, h.link]
  tx hb := by
    have slot : t.link.slot = s.link.slot := by rw [h.link]
    rw [g.tx (by rwa [h.tx hb, slot]), h.tx hb]
  notices := h.notices.trans g.notices (by rw [h.link])
  flags f hf hd := (g.flags f hf hd).trans (h.flags f hf hd)
  cause := g.cause.trans h.cause
  rail := ⟨g.rail.1.trans h.rail.1, g.rail.2.trans h.rail.2⟩
  lanes l := by rw [g.lanes l, h.lanes l]
  valves v := by rw [g.valves v, h.valves v]
  pwm := ⟨g.pwm.1.trans h.pwm.1, g.pwm.2.trans h.pwm.2⟩
  outside := ⟨g.outside.1.trans h.outside.1, g.outside.2.trans h.outside.2⟩

/-- More flags may have changed. -/
theorem Framed.mono {s t : State} {fs gs : List FaultFlag} (h : Framed s t fs) (sub : fs ⊆ gs) : Framed s t gs :=
  { h with flags := fun f hf hd => h.flags f (fun m => hf (sub m)) hd }

/-- The rail, the lanes' filters, the valves' configurations, the PWM base, the clock and the pins stay: what the frame
says beside the link and the flags. -/
structure Stays (s t : State) : Prop where
  rail : t.rail = s.rail ∧ t.drive.rail = s.drive.rail
  lanes : ∀ l : Fin 8, t.lane l = { s.lane l with state := (t.lane l).state }
  valves : ∀ v : Fin 16, t.valve v = { s.valve v with
    state := (t.valve v).state, active := (t.valve v).active, pull := (t.valve v).pull, out := (t.valve v).out }
  pwm : t.drive.period = s.drive.period ∧ t.drive.base = s.drive.base
  outside : t.now = s.now ∧ t.pending = s.pending
  pins : t.pins = s.pins

/-- Lanes and valves as they were. -/
theorem Stays.of_blocks {s t : State} (hl : t.lanes.lanes = s.lanes.lanes) (hv : t.drive.valves = s.drive.valves)
    (hd : t.drive.rail = s.drive.rail ∧ t.drive.period = s.drive.period ∧ t.drive.base = s.drive.base)
    (hr : t.rail = s.rail) (ho : t.now = s.now ∧ t.pending = s.pending) (hp : t.pins = s.pins) : Stays s t := by
  obtain ⟨rail, pwm⟩ := hd
  refine ⟨⟨hr, rail⟩, fun l => ?_, fun v => ?_, pwm, ho, hp⟩
  · have same : t.lane l = s.lane l := by rw [State.lane, State.lane, hl]
    rw [same]
  · have same : t.valve v = s.valve v := by rw [State.valve, State.valve, hv]
    rw [same]

/-- With the same link, flags and reset cause, what stays is the frame. -/
theorem Stays.framed {s t : State} {fs : List FaultFlag} (g : Stays s t) (hl : t.link = s.link)
    (hc : t.ctrl.flags = s.ctrl.flags ∧ t.ctrl.resetCause = s.ctrl.resetCause) : Framed s t fs := by
  obtain ⟨flags, cause⟩ := hc
  refine ⟨by rw [hl], fun _ => by rw [hl], hl ▸ .refl _, fun f _ _ => ?_, cause, g.rail, g.lanes, g.valves, g.pwm, g.outside⟩
  simp only [State.flag, LineControl.flag, flags]

/-- What an event of the belt bears on the part: the frame, the pins and the line state stay. -/
structure Bears (s t : State) (flags : List FaultFlag) : Prop where
  framed : Framed s t flags
  pins : t.pins = s.pins
  line : t.ctrl.line = s.ctrl.line

namespace Bears

variable {s t u : State} {fs gs : List FaultFlag}

/-- From what is told and what stays. -/
theorem of (h : Tells s t fs) (g : Stays s t) : Bears s t fs :=
  ⟨⟨h.link, h.tx, h.notices, h.flags, h.cause, g.rail, g.lanes, g.valves, g.pwm, g.outside⟩, g.pins, h.line⟩

/-- Nothing has happened. -/
theorem refl (s : State) : Bears s s fs := ⟨.refl s fs, rfl, rfl⟩

/-- One thing after the other. -/
theorem trans (h : Bears s t fs) (g : Bears t u fs) : Bears s u fs :=
  ⟨h.framed.trans g.framed, g.pins.trans h.pins, g.line.trans h.line⟩

/-- More flags may have changed. -/
theorem mono (h : Bears s t fs) (sub : fs ⊆ gs) : Bears s t gs := ⟨h.framed.mono sub, h.pins, h.line⟩

/-- A fold of such steps. -/
theorem foldl {α : Type} {op : State → α → State} (each : ∀ t x, Bears t (op t x) fs) (xs : List α) (s : State) :
    Bears s (xs.foldl op s) fs :=
  foldl_keeps (P := fun t => Bears s t fs) (fun t x h => h.trans (each t x)) xs s (refl s)

/-- With the same link, flags, line state, reset cause, clock and pins, and nothing else but stores, belt and handed values
changed. -/
theorem of_stores (hl : t.link = s.link) (hc : t.ctrl.flags = s.ctrl.flags ∧ t.ctrl.line = s.ctrl.line ∧
    t.ctrl.resetCause = s.ctrl.resetCause) (g : Stays s t) : Bears s t fs := by
  obtain ⟨flags, line, cause⟩ := hc
  exact ⟨g.framed hl ⟨flags, cause⟩, g.pins, line⟩

/-- An offer. -/
theorem offer (h : Bears s t fs) (n : Notice) : Bears s (t.offer n) fs :=
  h.trans (.of (.offer t n) (.of_blocks (by simp) (by simp) (by simp) (by simp) (by simp) (by simp)))

/-- An occurrence of a flag. -/
theorem occur (h : Bears s t fs) {f : FaultFlag} (hf : f ∈ fs) : Bears s (t.occur f) fs :=
  h.trans (.of (.occur t hf) (.of_blocks (by simp) (by simp) (by simp) (by simp) (by simp) (by simp)))

/-- A lane state written. -/
theorem putLaneState (h : Bears s t fs) (l : Fin 8) (x : LaneState) : Bears s (t.putLaneState l x) fs := by
  refine h.trans (.of (.of_same rfl rfl) ⟨⟨rfl, rfl⟩, fun k => ?_, fun _ => rfl, ⟨rfl, rfl⟩, ⟨rfl, rfl⟩, rfl⟩)
  rw [State.lane_putLaneState]
  split
  · rename_i e
    rw [e]
  · rfl

/-- One valve written, but for its configuration and duty. -/
theorem putValve (h : Bears s t fs) (v : Fin 16) {x : Valve}
    (hx : x = { t.valve v with state := x.state, active := x.active, pull := x.pull, out := x.out }) :
    Bears s (t.putValve v x) fs := by
  refine h.trans (.of (.of_same rfl rfl) ⟨⟨rfl, rfl⟩, fun _ => rfl, fun w => ?_, ⟨rfl, rfl⟩, ⟨rfl, rfl⟩, rfl⟩)
  rw [State.valve_putValve]
  split
  · rename_i e
    rw [← e]
    exact hx
  · rfl

/-- Outcomes written. -/
theorem writeOutcomes (h : Bears s t fs) (o : TargetOutcome) (cs : List Contribution) : Bears s (t.writeOutcomes o cs) fs :=
  h.trans (.of_stores (by simp) (by simp) (.of_blocks (by simp) (by simp) (by simp) (by simp) (by simp) (by simp)))

/-- A queue written. -/
theorem putQueue (h : Bears s t fs) (v : Fin 16) (q : List Action) : Bears s (t.putQueue v q) fs :=
  h.trans (.of_stores rfl ⟨rfl, rfl, rfl⟩ (.of_blocks rfl rfl ⟨rfl, rfl, rfl⟩ rfl ⟨rfl, rfl⟩ rfl))

end Bears

/-! ### Items and lanes (R44, R45, R54, R55, R61, R69) -/

section items

variable {fs : List FaultFlag}

/-- A discard. -/
theorem bears_discard (s : State) (tag : Nat) (why : DiscardReason) : Bears s (s.discard tag why) fs :=
  .of (tells_discard s tag why) (.of_blocks (by simp) (by simp) (by simp) (by simp) (by simp) (by simp))

/-- A closing, whose default can set SCHED_FULL (R61). -/
theorem bears_closeItem (s : State) (tag : Nat) (p : Pos) (n m : Nat) (b e : Bool) (hf : .schedFull ∈ fs) :
    Bears s (s.closeItem tag p n m b e) fs :=
  .of (tells_closeItem s tag p n m b e hf) (.of_blocks (by simp) (by simp) (by simp) (by simp) (by simp) (by simp))

/-- The check of a record, whose default can set SCHED_FULL (R56, R61). -/
theorem bears_checkRecord (s : State) (p : Pos) (tag : Nat) (hf : .schedFull ∈ fs) :
    Bears s (State.checkRecord p s tag) fs :=
  .of (tells_checkRecord s p tag hf) (.of_blocks (by simp) (by simp) (by simp) (by simp) (by simp) (by simp))

/-- A closing by the max length (R44). -/
theorem bears_closeByLength (u : Update) (s : State) (l : Fin 8) (hf : .schedFull ∈ fs) (he : .eyeBlocked ∈ fs) :
    Bears s (State.closeByLength u s l) fs := by
  unfold State.closeByLength
  split
  · exact ((bears_closeItem s _ _ _ _ _ _ hf).putLaneState l _).occur he
  · exact .refl s

/-- An abandonment by a reversal (R45). -/
theorem bears_abandonByReversal (s : State) (l : Fin 8) : Bears s (s.abandonByReversal l) fs := by
  unfold State.abandonByReversal
  split
  · exact ((Bears.refl s).putLaneState l _).trans (bears_discard _ _ _)
  · exact .refl s

/-! ### Valves (R104 to R107, R118, R129) -/

/-- A release. -/
theorem Bears.releaseValve {s t : State} (h : Bears s t fs) (v : Fin 16) : Bears s (t.releaseValve v) fs :=
  h.putValve v rfl

/-- An opening. -/
theorem Bears.startOpening {s t : State} (h : Bears s t fs) (v : Fin 16) : Bears s (t.startOpening v) fs := by
  unfold State.startOpening
  dsimp only
  split
  · exact h.putValve v rfl
  · exact h.putValve v rfl
  · exact h
  · split
    · exact h.putValve v rfl
    · exact h.putValve v rfl

/-- The examination of a queue. -/
theorem bears_examineQueue (p : Pos) (v : Fin 16) : ∀ (q : List Action) (s : State),
    Bears s (State.examineQueue p v q s) fs
  | [], s => by
    rw [State.examineQueue]
    exact (Bears.refl s).putQueue v _
  | a :: as, s => by
    rw [State.examineQueue]
    split
    · split
      · exact (((Bears.refl s).writeOutcomes _ _).releaseValve v).trans (bears_examineQueue p v as _)
      · exact (((Bears.refl s).writeOutcomes _ _).writeOutcomes _ _).putQueue v _
    · split
      · exact (Bears.refl s).putQueue v _
      split
      · exact ((Bears.refl s).writeOutcomes _ _).trans (bears_examineQueue p v as _)
      · exact ((((Bears.refl s).writeOutcomes _ _).writeOutcomes _ _).putQueue v _).startOpening v

/-- A cut by the motion. -/
theorem bears_motionCut (s : State) (v : Fin 16) : Bears s (s.motionCut v) fs := by
  unfold State.motionCut
  split
  · exact (((Bears.refl s).releaseValve v).putQueue v _).writeOutcomes _ _
  · exact .refl s

/-! ### What the Belt Position Unit hands (R12, R17, R26) -/

/-- The belt and the order list are outside the frame. -/
theorem Bears.putBelt {s t : State} (h : Bears s t fs) (b : Belt) : Bears s (t.putBelt b) fs :=
  h.trans (.of_stores rfl ⟨rfl, rfl, rfl⟩ (.of_blocks rfl rfl ⟨rfl, rfl, rfl⟩ rfl ⟨rfl, rfl⟩ rfl))

/-- A choice among open orders. -/
theorem bears_choose (s : State) (n : Nat) : Bears s (s.choose n).2 fs :=
  .of_stores (by simp) (by simp) (.of_blocks (by simp) (by simp) (by simp) (by simp) (by simp) (by simp))

/-- An arrangement of open orders. -/
theorem bears_settle {α : Type} (s : State) (xs : List α) : Bears s (s.settle xs).2 fs := by
  obtain ⟨o, h⟩ := s.settle_snd xs
  rw [h]
  exact .of_stores rfl ⟨rfl, rfl, rfl⟩ (.of_blocks rfl rfl ⟨rfl, rfl, rfl⟩ rfl ⟨rfl, rfl⟩ rfl)

/-- The Lane Inputs take an update (R12, R44). -/
theorem bears_lanesUpdate (s : State) (u : Update) (hf : .schedFull ∈ fs) (he : .eyeBlocked ∈ fs) :
    Bears s (s.lanesUpdate u) fs := by
  have taken : Bears s { s with lanes := { s.lanes with
      position := u.position, motion := u.motion, source := u.source } } fs :=
    .of_stores rfl ⟨rfl, rfl, rfl⟩ (.of_blocks rfl rfl ⟨rfl, rfl, rfl⟩ rfl ⟨rfl, rfl⟩ rfl)
  unfold State.lanesUpdate
  exact (taken.trans (bears_settle _ _)).trans (.foldl (fun t l => bears_closeByLength u t l hf he) _ _)

/-- The Tracking Table takes an update (R12, R62). -/
theorem bears_tableUpdate (s : State) (u : Update) (hf : .schedFull ∈ fs) : Bears s (s.tableUpdate u) fs := by
  have taken : Bears s { s with table := { s.table with position := u.position, motion := u.motion } } fs :=
    .of_stores rfl ⟨rfl, rfl, rfl⟩ (.of_blocks rfl rfl ⟨rfl, rfl, rfl⟩ rfl ⟨rfl, rfl⟩ rfl)
  unfold State.tableUpdate
  dsimp only
  split
  · exact taken.trans (.foldl (fun t tag => bears_checkRecord t u.position tag hf) _ _)
  · exact taken

/-- The Action Schedule and the Valve Drive take an update (R12, R102, R104). -/
theorem bears_driveUpdate (s : State) (u : Update) : Bears s (s.driveUpdate u) fs := by
  have taken : Bears s (s.scheduleUpdate u) fs := by
    rw [State.scheduleUpdate, State.workOutAdvances_eq]
    exact .of_stores rfl ⟨rfl, rfl, rfl⟩ (.of_blocks rfl rfl ⟨rfl, rfl, rfl⟩ rfl ⟨rfl, rfl⟩ rfl)
  unfold State.driveUpdate
  dsimp only
  split
  · exact taken.trans (.foldl (fun t v => bears_examineQueue u.position v _ t) _ _)
  · exact taken

/-- An update handed in any order (R12). -/
theorem bears_handUpdate (s : State) (k : UpdateKind) (hf : .schedFull ∈ fs) (he : .eyeBlocked ∈ fs) :
    Bears s (s.handUpdate k) fs := by
  have lanes := fun (t : State) u => bears_lanesUpdate t u hf he
  have table := fun (t : State) u => bears_tableUpdate t u hf
  have drive := fun (t : State) u => bears_driveUpdate (fs := fs) t u
  unfold State.handUpdate
  dsimp only
  split
  · exact (bears_choose s 6).trans ((lanes _ _).trans ((table _ _).trans (drive _ _)))
  · exact (bears_choose s 6).trans ((lanes _ _).trans ((drive _ _).trans (table _ _)))
  · exact (bears_choose s 6).trans ((table _ _).trans ((lanes _ _).trans (drive _ _)))
  · exact (bears_choose s 6).trans ((table _ _).trans ((drive _ _).trans (lanes _ _)))
  · exact (bears_choose s 6).trans ((drive _ _).trans ((lanes _ _).trans (table _ _)))
  · exact (bears_choose s 6).trans ((drive _ _).trans ((table _ _).trans (lanes _ _)))

/-- The Lane Inputs take a motion change (R45). -/
theorem bears_lanesMotion (s : State) (new : Motion) : Bears s (s.lanesMotion new) fs := by
  have taken : Bears s { s with lanes := { s.lanes with motion := new } } fs :=
    .of_stores rfl ⟨rfl, rfl, rfl⟩ (.of_blocks rfl rfl ⟨rfl, rfl, rfl⟩ rfl ⟨rfl, rfl⟩ rfl)
  unfold State.lanesMotion
  dsimp only
  split
  · exact (taken.trans (bears_settle _ _)).trans (.foldl bears_abandonByReversal _ _)
  · exact taken

/-- The Valve Drive takes a motion change (R129). -/
theorem bears_driveMotion (s : State) (old new : Motion) : Bears s (s.driveMotion old new) fs := by
  have taken : Bears s { s with drive := { s.drive with motion := new } } fs :=
    .of_stores rfl ⟨rfl, rfl, rfl⟩ (.of_blocks rfl rfl ⟨rfl, rfl, rfl⟩ rfl ⟨rfl, rfl⟩ rfl)
  unfold State.driveMotion
  dsimp only
  split
  · exact taken.trans (.foldl bears_motionCut _ _)
  · exact taken

/-- The Line Controller takes a motion change (R143). -/
theorem bears_ctrlMotion (s : State) (new : Motion) : Bears s (s.ctrlMotion new) fs :=
  .of_stores rfl ⟨rfl, rfl, rfl⟩ (.of_blocks rfl rfl ⟨rfl, rfl, rfl⟩ rfl ⟨rfl, rfl⟩ rfl)

/-- A motion change handed (R17). -/
theorem bears_handMotion (s : State) (old : Motion) : Bears s (s.handMotion old) fs := by
  have taken := fun t : State => (((bears_lanesMotion (fs := fs) t s.belt.motion).trans
    (bears_driveMotion _ old s.belt.motion)).trans (bears_ctrlMotion _ s.belt.motion))
  unfold State.handMotion
  split
  · exact .refl s
  dsimp only
  split
  · exact ((bears_choose s 2).offer _).trans (taken _)
  · exact ((bears_choose s 2).trans (taken _)).offer _

/-- A source told to the Lane Inputs (R26). -/
theorem bears_lanesSource (s : State) (k : SourceKind) : Bears s (s.lanesSource k) fs :=
  .of_stores rfl ⟨rfl, rfl, rfl⟩ (.of_blocks rfl rfl ⟨rfl, rfl, rfl⟩ rfl ⟨rfl, rfl⟩ rfl)

/-- A source change handed (R26). -/
theorem bears_handSource (s : State) : Bears s s.handSource fs := ((Bears.refl s).offer _).trans (bears_lanesSource _ _)

/-- A source change handed, if there is one (R26). -/
theorem bears_handSourceFrom (s : State) (old : SourceKind) : Bears s (s.handSourceFrom old) fs := by
  unfold State.handSourceFrom
  split
  · exact .refl s
  · exact bears_handSource s

end items

end Sys2Proof.Machine
end

section
/-! PROOFS. How a motion change reaches the Lane Inputs and the Valve Drive (R17, R107, R129), and the events that bring no
loss: counts, generated steps and the stop timer (R16, R21 to R25, R27). -/

namespace Sys2Proof.Machine

/-! ### The Valve Drive takes a motion change (R107, R129) -/

/-- Unless the motion leaves FORWARD the Valve Drive only holds it (R129). -/
theorem State.driveMotion_other (s : State) (old new : Motion) (h : old ≠ .forward ∨ new = .forward) :
    s.driveMotion old new = { s with drive := { s.drive with motion := new } } := by
  unfold State.driveMotion
  exact if_neg fun ⟨leaves, left⟩ => h.elim (absurd leaves) (absurd · left)

/-- A motion that leaves FORWARD cuts every valve in PULL_IN or HOLD (R129). -/
theorem State.driveMotion_leaves (s : State) (new : Motion) (h : new ≠ .forward) :
    s.driveMotion .forward new =
      allValves.foldl (State.cutWhere Valve.carrying) { s with drive := { s.drive with motion := new } } :=
  if_pos ⟨rfl, h⟩

/-- With no valve in PULL_IN or HOLD nothing is cut (R129). -/
theorem State.driveMotion_idle (s : State) (old new : Motion) (h : s.noneCarrying) :
    s.driveMotion old new = { s with drive := { s.drive with motion := new } } := by
  have kept : ∀ u : State, u.noneCarrying → allValves.foldl State.motionCut u = u := fun u none =>
    foldl_keeps (P := fun t => t = u) (fun t v e => by
      rw [e]
      exact if_neg (by rw [none v]; decide)) _ _ rfl
  unfold State.driveMotion
  dsimp only
  split
  · exact kept _ h
  · rfl

/-- What the cut reads and writes are table, schedule and drive alone. -/
theorem cutByMotion_congr {s s' t t' : State} (h : CutByMotion s t)
    (hs : (s'.table, s'.sched, s'.drive) = (s.table, s.sched, s.drive))
    (ht : (t'.table, t'.sched, t'.drive) = (t.table, t.sched, t.drive)) : CutByMotion s' t' := by
  simp only [Prod.mk.injEq] at hs ht
  obtain ⟨table, sched, drive⟩ := hs
  obtain ⟨table', sched', drive'⟩ := ht
  have queue : ∀ v, s'.queue v = s.queue v := State.queue_of_sched sched
  have valve : ∀ v, s'.valve v = s.valve v := State.valve_of_drive drive
  have queue' : ∀ v, t'.queue v = t.queue v := State.queue_of_sched sched'
  have valve' : ∀ v, t'.valve v = t.valve v := State.valve_of_drive drive'
  constructor
  · simpa only [queue, valve, queue', valve'] using h.cut
  · simpa only [queue, valve, queue', valve'] using h.kept
  · simpa only [table, table', queue, valve] using h.outcomes
  · simpa only [sched, sched', drive, drive'] using h.rest

/-- A motion that leaves FORWARD cuts as the statement says (R107, R129). -/
theorem State.cutByMotion_driveMotion (s : State) (new : Motion) (h : new ≠ .forward) :
    CutByMotion s (s.driveMotion .forward new) ∧ (s.driveMotion .forward new).drive.motion = new := by
  rw [State.driveMotion_leaves s new h]
  let held : State := { s with drive := { s.drive with motion := new } }
  obtain ⟨t, qs, vs, frame⟩ := State.foldl_cutWhere_eq Valve.carrying held
  refine ⟨⟨fun v hv => State.foldl_cutWhere_cut Valve.carrying held v hv,
    fun v hv => State.foldl_cutWhere_kept Valve.carrying held v hv, State.table_foldl_cutWhere Valve.carrying held, ?_⟩, ?_⟩
  · rw [frame]
    exact ⟨rfl, rfl⟩
  · rw [frame]

/-! ### A motion change handed (R17) -/

/-- A motion change is handed to receivers whose stores are the part's own, whichever way the notice stands (R17). -/
theorem State.handMotion_changed (s : State) (old : Motion) (h : s.belt.motion ≠ old) : ∃ x : State,
    (x.lanes, x.table, x.sched, x.drive) = (s.lanes, s.table, s.sched, s.drive) ∧
    let y := (x.lanesMotion s.belt.motion).driveMotion old s.belt.motion
    let t := s.handMotion old
    (t.lanes, t.table, t.sched, t.drive) = (y.lanes, y.table, y.sched, y.drive) := by
  obtain ⟨o, e⟩ := s.choose_snd 2
  unfold State.handMotion
  rw [if_neg h]
  dsimp only
  split
  · exact ⟨(s.choose 2).2.offer s.motionNotice, by rw [e]; simp, rfl⟩
  · exact ⟨(s.choose 2).2, by rw [e], by simp [State.ctrlMotion]⟩

/-- A motion change other than one to REVERSE leaves the Lane Inputs but for the motion they hold (R46). -/
theorem State.lanes_handMotion (s : State) (old : Motion) (hne : s.belt.motion ≠ old) (hr : s.belt.motion ≠ .reverse) :
    (s.handMotion old).lanes = { s.lanes with motion := s.belt.motion } := by
  obtain ⟨x, hx, ht⟩ := s.handMotion_changed old hne
  simp only [Prod.mk.injEq] at hx ht
  obtain ⟨lanes, _⟩ := hx
  obtain ⟨lanes', _⟩ := ht
  rw [lanes', State.lanesMotion_other _ _ hr]
  simp [lanes]

/-- A motion change that leaves FORWARD for STOPPED cuts (R17, R129). -/
theorem State.cutByMotion_handMotion (s : State) (hs : s.belt.motion = .stopped) : CutByMotion s (s.handMotion .forward) := by
  obtain ⟨x, hx, ht⟩ := s.handMotion_changed .forward (by rw [hs]; decide)
  simp only [Prod.mk.injEq] at hx
  obtain ⟨_, table, sched, drive⟩ := hx
  rw [State.lanesMotion_other _ _ (by rw [hs]; decide)] at ht
  obtain ⟨_, same⟩ := Prod.mk.inj ht
  obtain ⟨cut, _⟩ := State.cutByMotion_driveMotion { x with lanes := { x.lanes with motion := s.belt.motion } }
    s.belt.motion (by rw [hs]; decide)
  exact cutByMotion_congr cut (by simp [table, sched, drive]) same

/-- A motion change from REVERSE to STOPPED, or one with no valve in PULL_IN or HOLD, is only held (R17, R129). -/
theorem State.stores_handMotion (s : State) (old : Motion) (hne : s.belt.motion ≠ old) (hs : s.belt.motion = .stopped)
    (h : old ≠ .forward ∨ s.noneCarrying) :
    let t := s.handMotion old
    t.table = s.table ∧ t.sched = s.sched ∧ t.drive = { s.drive with motion := .stopped } := by
  obtain ⟨x, hx, ht⟩ := s.handMotion_changed old hne
  simp only [Prod.mk.injEq] at hx
  obtain ⟨_, table, sched, drive⟩ := hx
  rw [State.lanesMotion_other _ _ (by rw [hs]; decide)] at ht
  have held : State.driveMotion { x with lanes := { x.lanes with motion := s.belt.motion } } old s.belt.motion =
      { x with lanes := { x.lanes with motion := s.belt.motion }, drive := { x.drive with motion := s.belt.motion } } := by
    rcases h with h | h
    · exact State.driveMotion_other _ _ _ (.inl h)
    · refine State.driveMotion_idle _ _ _ fun v => ?_
      have same : State.valve { x with lanes := { x.lanes with motion := s.belt.motion } } v = s.valve v := by
        rw [State.valve, State.valve, drive]
      rw [same]
      exact h v
  rw [held] at ht
  simp only [Prod.mk.injEq] at ht
  obtain ⟨_, table', sched', drive'⟩ := ht
  exact ⟨table'.trans table, sched'.trans sched, by rw [drive', drive, hs]⟩

/-! ### The stop timer (R16) -/

/-- The stop timer stops the belt and hands the change (R16, R17). -/
theorem State.stopExpiry_running (s : State) (e : Nat) (h : s.belt.stopTimer = some e) :
    s.stopExpiry = (s.putBelt s.belt.stop).handMotion s.belt.motion := by
  rw [State.stopExpiry, h]

/-- A moving belt that stops (R16, R18). -/
theorem Belt.stop_moving (b : Belt) (h : b.motion ≠ .stopped) :
    b.stop = { b with motion := .stopped, acc := 0, history := [], last := none, stopTimer := none } := if_neg h

/-- Settles O33: the stop timer stops the belt, and a motion that leaves FORWARD cuts. -/
theorem stopTimerExpiryStopsTheBelt : Obligations.StopTimerExpiryStopsTheBelt := by
  refine ⟨fun s e timer moving wf => ?_, fun s timer => ?_, State.cutByMotion_driveMotion, State.driveMotion_other⟩
  · let s1 := s.putBelt s.belt.stop
    have belt : s1.belt = { s.belt with motion := .stopped, acc := 0, history := [], last := none, stopTimer := none } :=
      s.belt.stop_moving moving
    have stopped : s1.belt.motion = .stopped := by rw [belt]
    have changed : s1.belt.motion ≠ s.belt.motion := stopped ▸ moving.symm
    have bears : Bears s (s1.handMotion s.belt.motion) [] := ((Bears.refl s).putBelt _).trans (bears_handMotion _ _)
    have handed : (s1.handMotion s.belt.motion).handedWf := by
      rw [← s.stopExpiry_running e timer]
      exact State.handedWf_of_inStep wf fun _ _ h => State.inStep_effect .stop h
    have lanes := s1.lanes_handMotion s.belt.motion changed (stopped ▸ by decide)
    have kept : (s1.handMotion s.belt.motion).belt = s1.belt := by simp
    refine ⟨s1.handMotion s.belt.motion, congrArg _ (s.stopExpiry_running e timer), kept.trans belt, ?_, handed,
      bears.framed, bears.pins, bears.line, fun l => ?_, fun forward => ?_, fun reverse => ?_⟩
    · rw [kept]
      exact State.handMotion_hands _ _
    · rw [State.lane, lanes]
      rfl
    · rw [forward]
      exact cutByMotion_congr (s1.cutByMotion_handMotion stopped) rfl rfl
    · obtain ⟨table, sched, drive⟩ := s1.stores_handMotion s.belt.motion changed stopped (.inl (reverse ▸ by decide))
      exact ⟨table, sched, fun v => by rw [State.valve, drive]; rfl⟩
  · have still : s.stopExpiry = s := by rw [State.stopExpiry, timer]
    exact congrArg _ still

/-! ### Generated steps (R9, R21, R27) -/

/-- A generated count bears on the part as an update does, with a motion change before it (R12, R17). -/
theorem bears_countGenerated (s : State) (k : UpdateKind) : Bears s (s.countGenerated k) [.eyeBlocked, .schedFull] :=
  (((Bears.refl s).putBelt _).trans (bears_handMotion _ _)).trans (bears_handUpdate _ _ (by simp) (by simp))

/-- After a generated count all hold its position (R12). -/
theorem State.held_countGenerated (s : State) (k : UpdateKind) :
    (s.countGenerated k).lanes.position = (s.countGenerated k).belt.position ∧
    (s.countGenerated k).table.position = (s.countGenerated k).belt.position ∧
    (s.countGenerated k).sched.position = (s.countGenerated k).belt.position := by
  have held := State.held_handUpdate ((s.putBelt s.belt.generatedCount).handMotion s.belt.motion) k
  simp only [State.held, Prod.mk.injEq] at held
  obtain ⟨⟨lanes, _⟩, ⟨table, _⟩, ⟨sched, _⟩⟩ := held
  rw [State.belt_countGenerated]
  refine ⟨lanes.trans ?_, table.trans ?_, sched.trans ?_⟩
  all_goals simp

/-- The motion and the accumulator of a generated count are those of a forward count (R14, R15, R27). -/
theorem Belt.motion_generatedCount (b : Belt) : b.generated.generatedCount.motion = (b.feed .forward).motion ∧
    b.generated.generatedCount.acc = (b.feed .forward).acc := by
  have fed : b.generated.feed .forward = (b.feed .forward).generated := by
    obtain ⟨_, _, _, _, _, _, _, motion, _⟩ := b
    cases motion <;> simp only [Belt.feed, Belt.generated] <;> split <;> simp only [*, ↓reduceIte]
  unfold Belt.generatedCount
  rw [Belt.feed_move, fed]
  exact ⟨rfl, rfl⟩

/-- A generated count writes position, motion and accumulator of the belt with its fraction brought down (R9). -/
theorem Belt.generatedCount_eq (b : Belt) (f : Nat) (h : b.gen = some f) : b.generated.generatedCount =
    { b with position := b.position + 1, gen := some (f - 1000000), motion := (b.feed .forward).motion,
             acc := (b.feed .forward).acc } := by
  obtain ⟨motion, acc⟩ := b.motion_generatedCount
  rw [← motion, ← acc, Belt.generatedCount, Belt.feed_writes]
  simp only [Belt.generated, Belt.move, h, Option.map_some, Config.genModulus]

/-- Settles O31: a generated step is a forward count of the belt with its fraction brought down. -/
theorem generatedStepsMoveForward : Obligations.GeneratedStepsMoveForward := by
  refine ⟨fun s f hs hf => ?_, fun s f hs hf hm hacc => ?_, fun s h =>
    congrArg Host.Outcome.next (?_ : s.stepTimed = s), fun s h =>
    congrArg Host.Outcome.next (?_ : s.stepEstimated = s)⟩
  · let t := (s.putBelt s.belt.generated).countGenerated .timed
    have stepped : s.stepTimed = t := by rw [State.stepTimed, hs, hf]
    have belt : t.belt = _ := (State.belt_countGenerated _ _).trans (s.belt.generatedCount_eq f hf)
    have bears : Bears s t [.eyeBlocked, .schedFull] := ((Bears.refl s).putBelt _).trans (bears_countGenerated _ _)
    have handed : HandsMotion { s with belt := t.belt } s.belt.motion
        (({ s with belt := t.belt } : State).handMotion s.belt.motion) := State.handMotion_hands _ _
    refine ⟨t, congrArg _ stepped, by rw [belt], by rw [belt], by rw [belt]; exact hs, by rw [belt], fun hm below => ?_,
      fun hm reached => ?_, fun hm => ?_, ⟨_, handed, ?_⟩, bears.framed, bears.pins, bears.line,
      State.held_countGenerated _ _⟩
    · have short : ¬ (s.belt.par.reversal : Int) ≤ s.belt.acc + 1 := by omega
      rw [belt]
      simp only [Belt.feed, hm, if_neg short, and_self]
    · rw [belt]
      simp only [Belt.feed, hm, reached, Int.le_refl, if_true, and_self]
    · rw [belt, Belt.feed_along _ _ (.inl (by rw [hm]))]
      exact hm
    · rw [State.belt_countGenerated]
      rfl
  · let t := (s.putBelt s.belt.generated).countGenerated .estimated
    have stepped : s.stepEstimated = t := by rw [State.stepEstimated, hs, hf]
    have belt : t.belt = { s.belt with
        position := s.belt.position + 1, gen := some (f - 1000000),
        acc := if s.belt.acc = 0 then 0 else s.belt.acc - 1 } := by
      refine ((State.belt_countGenerated _ _).trans (s.belt.generatedCount_eq f hf)).trans ?_
      rw [Belt.feed_along _ _ (.inl (by rw [hm]))]
      congr 1
      dsimp only
      split <;> split <;> omega
    have bears : Bears s t [.eyeBlocked, .schedFull] := ((Bears.refl s).putBelt _).trans (bears_countGenerated _ _)
    have unchanged : (({ s with belt := t.belt } : State).handMotion s.belt.motion) = { s with belt := t.belt } :=
      if_pos (by rw [belt])
    have handed : t = (({ s with belt := t.belt } : State).handMotion s.belt.motion).handUpdate .estimated := by
      rw [State.belt_countGenerated]
      rfl
    rw [unchanged] at handed
    exact ⟨t, congrArg _ stepped, belt, handed, bears.framed, bears.pins, bears.line, State.held_countGenerated _ _⟩
  · unfold State.stepTimed
    split
    · rename_i f hs hf
      exact (h.elim (absurd hs) fun none => by rw [none] at hf; cases hf)
    · rfl
  · unfold State.stepEstimated
    split
    · rename_i f hs hf
      exact (h.elim (absurd hs) fun none => by rw [none] at hf; cases hf)
    · rfl

end Sys2Proof.Machine
end

section
/-! PROOFS. What a count does to the source (R20, R22 to R25). -/

namespace Sys2Proof.Machine

/-! ### The source under a count (R22, R23, R25) -/

section confirm

variable {b : Belt}

/-- The first count after an ESTIMATE begins a CONFIRMING and stops the generator (R22). -/
theorem Belt.confirm_estimate (h : b.source = .estimate) :
    b.confirm = { b with source := .confirming ⟨.estimate, 1, 0⟩, gen := none } := by
  simp only [Belt.confirm, h]

/-- The first count after a loss begins a CONFIRMING (R25). -/
theorem Belt.confirm_lost (h : b.source = .lost) :
    b.confirm = { b with source := .confirming ⟨.lost, 1, 0⟩, silenceTimer := none } := by
  simp only [Belt.confirm, h]

/-- A count that leaves a CONFIRMING short of four raises its count (R23). -/
theorem Belt.confirm_raises {c : Confirmation} (h : b.source = .confirming c) (few : c.count < 3) :
    b.confirm = { b with source := .confirming ⟨c.origin, c.count + 1, 0⟩ } := by
  have short : ¬ Config.confirmCounts ≤ c.count + 1 := by
    have : Config.confirmCounts = 4 := rfl
    omega
  simp only [Belt.confirm, h, if_neg short]

/-- The fourth count of a CONFIRMING enters ENCODER (R23). -/
theorem Belt.confirm_enters {c : Confirmation} (h : b.source = .confirming c) (three : c.count = 3) :
    b.confirm = { b with source := .encoder, limitTimer := none, limitExpired := false, frozen := 0,
                         restart := false, silenceTimer := none } := by
  have reached : Config.confirmCounts ≤ c.count + 1 := by
    have : Config.confirmCounts = 4 := rfl
    omega
  simp only [Belt.confirm, h, if_pos reached]

/-- In ENCODER a count changes nothing of the source (R20). -/
theorem Belt.confirm_encoder (h : b.source = .encoder) : b.confirm = b := by
  simp only [Belt.confirm, h]

/-- No count touches the parameters, RUN and the reference (R7, R10). -/
theorem Belt.keeps_confirm (b : Belt) : b.confirm.par = b.par ∧ b.confirm.run = b.run ∧ b.confirm.encRef = b.encRef := by
  unfold Belt.confirm
  repeat' split
  all_goals exact ⟨rfl, rfl, rfl⟩

end confirm

/-- In ENCODER the loss timer restarts while RUN is active (R20). -/
theorem Belt.restartLoss_encoder (b : Belt) (h : b.source = .encoder) :
    b.restartLoss = { b with lossTimer := if b.run then some 0 else none } := by
  simp only [Belt.restartLoss, h]

/-- The belt after an encoder count. -/
theorem State.belt_counted (s : State) (d : Dir) :
    (s.countEncoder d).belt = (s.belt.travelled d s.now).confirm.restartStop.restartLoss := by
  rw [State.belt_countEncoder, Belt.encoderCount_eq]

/-! ### What a count bears on the part (R12, R17, R26) -/

/-- An encoder count bears on the part as an update does, with a source change and a motion change before it. -/
theorem bears_countEncoder (s : State) (d : Dir) : Bears s (s.countEncoder d) [.eyeBlocked, .schedFull] :=
  ((((Bears.refl s).putBelt _).trans (bears_handSourceFrom _ _)).trans (bears_handMotion _ _)).trans
    (bears_handUpdate _ _ (by simp) (by simp))

/-- A count hands source change, motion change and update in this order (R12, R17, R26). -/
theorem State.countEncoder_hands (s : State) (d : Dir) : ∃ x y : State,
    HandsSource { s with belt := (s.countEncoder d).belt } s.belt.source.kind x ∧ HandsMotion x s.belt.motion y ∧
      s.countEncoder d = y.handUpdate .encoder := by
  rw [State.belt_countEncoder]
  exact ⟨_, _, State.handSourceFrom_hands _ _, State.handMotion_hands _ _, rfl⟩

/-- A CONFIRMING has not failed while its last count lies within the loss time (R24). -/
theorem Belt.gapOver_false (b : Belt) (h : ∀ c, b.source = .confirming c → c.gap ≤ b.par.lossTime * 1000) :
    b.gapOver = false := by
  unfold Belt.gapOver
  split
  · rename_i c hc
    exact decide_eq_false (Nat.not_lt.mpr (h c hc))
  · rfl

/-- A CONFIRMING has failed once its last count lies further back (R24). -/
theorem Belt.gapOver_true (b : Belt) {c : Confirmation} (hc : b.source = .confirming c)
    (h : b.par.lossTime * 1000 < c.gap) : b.gapOver = true := by
  simp only [Belt.gapOver, hc, decide_eq_true_eq]
  exact h

/-- Settles O30: the source of the travelled belt decides what the count does; a late count meets the source that the gap
leaves. -/
theorem fourCountsConfirmTheEncoder : Obligations.FourCountsConfirmTheEncoder := by
  have estimate : ∀ (s : State) (d : Dir), s.belt.source = .estimate →
      (s.countEncoder d).belt.source = .confirming ⟨.estimate, 1, 0⟩ ∧ (s.countEncoder d).belt.gen = none ∧
      (s.countEncoder d).belt.frozen = s.belt.frozen ∧ (s.countEncoder d).belt.limitTimer = s.belt.limitTimer :=
    fun s d h => by
      rw [State.belt_counted, Belt.confirm_estimate (b := s.belt.travelled d s.now) h]
      exact ⟨rfl, rfl, rfl, rfl⟩
  have lost : ∀ (s : State) (d : Dir), s.belt.source = .lost →
      (s.countEncoder d).belt.source = .confirming ⟨.lost, 1, 0⟩ := fun s d h => by
    rw [State.belt_counted, Belt.confirm_lost (b := s.belt.travelled d s.now) h]
    rfl
  refine ⟨fun s d inTime => ?_, fun s d c hc late => ?_, State.countEncoder_hands⟩
  · rw [s.takeCount_inTime d (s.belt.gapOver_false inTime)]
    have bears := bears_countEncoder s d
    obtain ⟨par, run, ref⟩ := Belt.keeps_confirm (s.belt.travelled d s.now)
    refine ⟨rfl, bears.framed, bears.pins, bears.line, ?_, ?_, ?_, estimate s d, lost s d, fun c hc few => ?_,
      fun c hc three => ?_, fun hs => ?_⟩
    · rw [State.belt_counted]
      exact par
    · rw [State.belt_counted]
      exact run
    · rw [State.belt_counted]
      exact ref
    · rw [State.belt_counted, Belt.confirm_raises (b := s.belt.travelled d s.now) hc few]
      exact ⟨rfl, rfl, rfl, rfl⟩
    · rw [State.belt_counted, Belt.confirm_enters (b := s.belt.travelled d s.now) hc three, Belt.restartLoss_encoder _ rfl]
      exact ⟨rfl, rfl, rfl, rfl, rfl, rfl⟩
    · rw [State.belt_counted, Belt.confirm_encoder (b := s.belt.travelled d s.now) hs,
        Belt.restartLoss_encoder (s.belt.travelled d s.now).restartStop hs]
      exact ⟨hs, rfl⟩
  · rw [s.takeCount_late d (s.belt.gapOver_true hc late)]
    exact ⟨s.gapExpiry, rfl, s.gapExpiry_source hc, rfl, fun h => (estimate _ d h).1, lost _ d⟩

end Sys2Proof.Machine
end

section
/-! PROOFS. Entries into LOST and SILENCE: the halt of the line, the frame and what is handed (R16, R20 to R26, R148,
R149), and on them RUN and the timers of the belt. -/

namespace Sys2Proof.Machine

/-! ### The halt and the frame (R148, R149) -/

/-- An event that can halt the line: the frame, the pins, and the line state it leaves. -/
structure Leads (s t : State) (flags : List FaultFlag) (line : LineState) : Prop where
  framed : Framed s t flags
  pins : t.pins = s.pins
  line : t.ctrl.line = line

/-- What leaves the line leads nowhere else. -/
theorem Bears.leads {s t : State} {fs : List FaultFlag} (h : Bears s t fs) : Leads s t fs s.ctrl.line :=
  ⟨h.framed, h.pins, h.line⟩

/-- After what leaves the line. -/
theorem Bears.then_leads {s t u : State} {fs : List FaultFlag} {line : LineState} (h : Bears s t fs)
    (g : Leads t u fs line) : Leads s u fs line := ⟨h.framed.trans g.framed, g.pins.trans h.pins, g.line⟩

/-- Before what leaves the line. -/
theorem Leads.then_bears {s t u : State} {fs : List FaultFlag} {line : LineState} (h : Leads s t fs line)
    (g : Bears t u fs) : Leads s u fs line := ⟨h.framed.trans g.framed, g.pins.trans h.pins, g.line.trans h.line⟩

/-- Leaving ARMED stays within the frame (R39, R112, R131). -/
theorem stays_leftArmed {s u : State} (h : LeftArmed s u) (hr : u.rail = s.rail) : Stays s u := by
  obtain ⟨period, base, _, rail⟩ := h.drive
  obtain ⟨_, _, _, pins, now, _, pending⟩ := h.rest
  refine ⟨⟨hr, rail⟩, fun l => by rw [h.lanes l], fun v => ?_, ⟨period, base⟩, ⟨now, pending⟩, pins⟩
  rw [h.valves v]
  split <;> rfl

/-- The line state after an event that halts an ARMED line (R148). -/
def State.haltedLine (s : State) (why : HaltCause) : LineState :=
  if s.ctrl.line = .armed then .halted why else s.ctrl.line

/-- A halt (R149). -/
theorem leads_halt (s : State) (why : HaltCause) {fs : List FaultFlag} (hf : .trackHalt ∈ fs) :
    Leads s (s.halt why) fs (s.haltedLine why) := by
  unfold State.haltedLine
  split
  · rename_i armed
    obtain ⟨u, left, ctrl, halted⟩ := s.halt_armed why armed
    obtain ⟨_, rail, link, pins, _⟩ := left.rest
    have told : Bears u (s.halt why) fs := by
      rw [halted]
      exact ((Bears.refl u).occur hf).offer _
    have left : Framed s u fs := (stays_leftArmed left rail).framed link (by rw [ctrl]; exact ⟨rfl, rfl⟩)
    exact ⟨left.trans told.framed, told.pins.trans pins, told.line.trans (by rw [ctrl])⟩
  · rename_i other
    rw [s.halt_other why other]
    exact (Bears.refl s).leads

/-- The line state after an entry into LOST (R148). -/
def State.lostLine (s : State) (cause : LostCause) : LineState :=
  match haltCauseOf cause s.belt.run with
  | some why => s.haltedLine why
  | none => s.ctrl.line

/-- What the Line Controller makes of an entry into LOST (R148). -/
theorem leads_takeLost (s : State) (cause : LostCause) {fs : List FaultFlag}
    (hf : haltCauseOf cause s.belt.run = none ∨ .trackHalt ∈ fs) : Leads s (s.takeLost cause) fs (s.lostLine cause) := by
  unfold State.lostLine
  split
  · rename_i why hwhy
    rw [s.takeLost_eq cause why hwhy]
    exact leads_halt s why (hf.resolve_left (by rw [hwhy]; nofun))
  · rename_i none
    rw [s.takeLost_none cause none]
    exact (Bears.refl s).leads

/-- An entry into LOST tells the source and then the loss (R26, R148). -/
theorem State.handLost_eq (s : State) (cause : LostCause) : s.handLost cause = (ToldLost s cause).takeLost cause := by
  unfold State.handLost ToldLost State.lanesSource
  rw [State.lanes_offer]

/-- The source told before a loss (R26). -/
theorem bears_toldLost (s : State) (cause : LostCause) {fs : List FaultFlag} : Bears s (ToldLost s cause) fs := by
  have told := (bears_lanesSource (fs := fs) (s.offer (.source .lost (some cause))) .lost)
  unfold State.lanesSource at told
  rw [State.lanes_offer] at told
  exact ((Bears.refl s).offer _).trans told

/-- An entry into LOST (R17, R26, R148). -/
theorem leads_enterLost (s : State) (cause : LostCause) {fs : List FaultFlag}
    (hf : haltCauseOf cause s.belt.run = none ∨ .trackHalt ∈ fs) : Leads s (s.enterLost cause) fs (s.lostLine cause) := by
  let told := ToldLost (s.putBelt s.belt.lose) cause
  have before : Bears s told fs := ((Bears.refl s).putBelt _).trans (bears_toldLost _ _)
  have run : told.belt.run = s.belt.run := by
    have belt : told.belt = s.belt.lose := State.belt_offer _ _
    rw [belt, Belt.lose_eq]
  have line : told.lostLine cause = s.lostLine cause := by
    unfold State.lostLine State.haltedLine
    rw [run, before.line]
  have lost : Leads told (told.takeLost cause) fs (s.lostLine cause) := line ▸ leads_takeLost told cause (by rwa [run])
  unfold State.enterLost
  rw [State.handLost_eq]
  exact (before.then_leads lost).then_bears (bears_handMotion _ _)

/-! ### The source that the Lane Inputs hold (R26) -/

/-- A motion change handed leaves the source that the Lane Inputs hold. -/
theorem State.source_handMotion (s : State) (old : Motion) : (s.handMotion old).lanes.source = s.lanes.source := by
  have lanesMotion : ∀ t : State, (t.lanesMotion s.belt.motion).lanes.source = t.lanes.source := fun t =>
    (State.Holds.lanesMotion (s := t) ⟨rfl, rfl, rfl, rfl⟩ s.belt.motion).source
  have driveMotion : ∀ t : State, (t.driveMotion old s.belt.motion).lanes.source = t.lanes.source := fun t =>
    (State.Holds.driveMotion (s := t) ⟨rfl, rfl, rfl, rfl⟩ old s.belt.motion).source
  by_cases changed : s.belt.motion = old
  · rw [State.handMotion, if_pos changed]
  · obtain ⟨x, hx, ht⟩ := s.handMotion_changed old changed
    rw [(Prod.mk.inj ht).1, driveMotion, lanesMotion, (Prod.mk.inj hx).1]

/-- A halt leaves the source that the Lane Inputs hold (R39). -/
theorem State.source_halt (s : State) (why : HaltCause) : (s.halt why).lanes.source = s.lanes.source :=
  let ⟨_, _, source⟩ := (handedSame_halt s why).lanes
  source

/-- What the Line Controller makes of a loss leaves the source that the Lane Inputs hold (R148). -/
theorem State.source_takeLost (s : State) (cause : LostCause) : (s.takeLost cause).lanes.source = s.lanes.source := by
  unfold State.takeLost
  split
  · exact s.source_halt _
  · rfl

/-- After an entry into LOST the Lane Inputs hold LOST (R26). -/
theorem State.source_lanes_enterLost (s : State) (cause : LostCause) : (s.enterLost cause).lanes.source = .lost := by
  unfold State.enterLost
  rw [State.source_handMotion, State.handLost_eq, State.source_takeLost]
  rfl

end Sys2Proof.Machine
end

section
/-! PROOFS. RUN and the timers of the belt (R10, R16, R20 to R26). -/

namespace Sys2Proof.Machine

/-! ### RUN (R10) -/

/-- The filtered level is read through the polarity as the statement reads it (R10). -/
theorem Belt.runLevel_eq (b : Belt) : b.runLevel = RunThrough b.runFiltered b.par.polarity := by
  unfold Belt.runLevel RunThrough
  cases b.par.polarity <;> cases b.runFiltered <;> rfl

/-- The filter takes a level, and RUN follows (R10). -/
theorem State.runFilterExpiry_eq (s : State) (level : Level) :
    s.runFilterExpiry level = (Filtered s level s.belt).syncRun := rfl

/-- RUN as it was acts on nothing (R10). -/
theorem State.syncRun_same (s : State) (h : RunThrough s.belt.runFiltered s.belt.par.polarity = s.belt.run) :
    s.syncRun = s := by
  rw [State.syncRun, if_pos (by rw [Belt.runLevel_eq, h])]

/-- RUN becomes active (R9, R16, R20, R25). -/
theorem State.syncRun_on (s : State) (h : RunThrough s.belt.runFiltered s.belt.par.polarity = true)
    (off : s.belt.run = false) : s.syncRun = s.putBelt s.belt.runOn := by
  have level : s.belt.runLevel = true := by rw [Belt.runLevel_eq, h]
  rw [State.syncRun, if_neg (by rw [level, off]; decide), if_pos level]

/-- RUN becomes inactive (R9, R16, R22, R24). -/
theorem State.syncRun_off (s : State) (h : RunThrough s.belt.runFiltered s.belt.par.polarity = false)
    (on : s.belt.run = true) : s.syncRun =
      match s.belt.source with
      | .encoder => (s.putBelt s.belt.runOff).putBelt s.belt.runOff.restartStop
      | .timed => (s.putBelt { s.belt.runOff.stop with gen := none }).handMotion s.belt.motion
      | .estimate => (s.putBelt s.belt.runOff).enterLost .runOff
      | .confirming _ => (s.putBelt s.belt.runOff).enterLost .runOff
      | .lost => s.putBelt s.belt.runOff := by
  have level : s.belt.runLevel = false := by rw [Belt.runLevel_eq, h]
  rw [State.syncRun, if_neg (by rw [level, on]; decide), if_neg (by rw [level]; decide)]
  rfl

/-- The filter is outside the frame (R10). -/
theorem framed_filtered (s : State) (level : Level) (b : Belt) (fs : List FaultFlag) : Framed s (Filtered s level b) fs :=
  ⟨rfl, fun _ => rfl, .refl _, fun _ _ _ => rfl, rfl, ⟨rfl, rfl⟩, fun _ => rfl, fun _ => rfl, ⟨rfl, rfl⟩, ⟨rfl, rfl⟩⟩

/-- A belt that stops keeps RUN (R16). -/
@[simp] theorem Belt.run_stop (b : Belt) : b.stop.run = b.run := by
  unfold Belt.stop
  split <;> rfl

/-- RUN_OFF loses the source without a halt (R22, R24, R148). -/
theorem State.runOff_loses (s : State) (level : Level)
    (h : RunThrough level s.belt.par.polarity = false) (on : s.belt.run = true)
    (hs : s.belt.source = .estimate ∨ ∃ c, s.belt.source = .confirming c) :
    (Filtered s level s.belt).syncRun = (Filtered s level s.belt.runOff).enterLost .runOff := by
  rw [State.syncRun_off (Filtered s level s.belt) h on]
  rcases hs with hs | ⟨c, hs⟩
  · have source : (Filtered s level s.belt).belt.source = .estimate := hs
    rw [source]
    rfl
  · have source : (Filtered s level s.belt).belt.source = .confirming c := hs
    rw [source]
    rfl

/-- Settles O32: RUN against its level through the polarity, and by source what its change does. -/
theorem runChangeActsByItsSource : Obligations.RunChangeActsByItsSource := by
  intro s level run
  have expiry : exec (.runChange level) s = .next (Filtered s level s.belt).syncRun := rfl
  rw [expiry]
  refine ⟨fun same => congrArg _ (State.syncRun_same _ same), fun active was => ?_, fun inactive was => ?_⟩
  · rw [State.syncRun_on (Filtered s level s.belt) active was]
    refine ⟨fun hs => ?_, fun hs => ?_, fun hs => ?_, fun c hs ho => ?_⟩
    all_goals
      refine congrArg Host.Outcome.next ?_
      simp only [Belt.runOn, Filtered, State.putBelt, *]
  · refine ⟨fun hs => ?_, fun hs => ?_, fun hs => ?_, fun hs => ?_⟩
    · rw [State.syncRun_off (Filtered s level s.belt) inactive was]
      refine congrArg Host.Outcome.next ?_
      have source : (Filtered s level s.belt).belt.source = .encoder := hs
      rw [source]
      cases hm : s.belt.motion <;>
        simp [Belt.runOff, Belt.restartStop, Filtered, State.putBelt, hs, hm]
    · rw [State.syncRun_off (Filtered s level s.belt) inactive was]
      have source : (Filtered s level s.belt).belt.source = .lost := hs
      rw [source]
      rfl
    · let b := { s.belt.runOff.stop with gen := none }
      have taken : (Filtered s level s.belt).syncRun = (Filtered s level b).handMotion s.belt.motion := by
        rw [State.syncRun_off (Filtered s level s.belt) inactive was]
        have source : (Filtered s level s.belt).belt.source = .timed := hs
        rw [source]
        by_cases hm : s.belt.motion = .stopped <;> simp [Belt.runOff, Belt.stop, Filtered, State.putBelt, hm, b]
      have bears : Bears (Filtered s level b) ((Filtered s level b).handMotion s.belt.motion) [] := bears_handMotion _ _
      have belt : ((Filtered s level b).handMotion s.belt.motion).belt = { b with runFiltered := level, runTimer := 0 } :=
        (State.handMotion_frame _ _).1
      refine ⟨_, congrArg _ taken, ?_⟩
      rw [belt]
      obtain ⟨position, source, _, motion⟩ := s.belt.runOff.stop_keeps
      exact ⟨s.belt.runOff.run_stop, rfl, motion, source.trans hs, position, bears.line,
        (framed_filtered s level b []).trans bears.framed, State.handMotion_hands _ _⟩
    · rw [s.runOff_loses level inactive was hs]
      let x := Filtered s level s.belt.runOff
      have leads : Leads x (x.enterLost .runOff) [] s.ctrl.line := leads_enterLost x .runOff (.inl rfl)
      have handed := State.enterLost_hands x .runOff
      have belt : (x.enterLost .runOff).belt = x.belt.lose := State.belt_enterLost _ _
      refine ⟨_, rfl, ?_⟩
      rw [belt, Belt.lose_eq]
      rw [Belt.lose_eq] at handed
      exact ⟨rfl, rfl, rfl, rfl, rfl, rfl, rfl, rfl, State.source_lanes_enterLost x .runOff, leads.line,
        (framed_filtered s level _ []).trans leads.framed, handed⟩

/-! ### The loss timer (R20, R21) -/

/-- Settles O34: ENC_LOST occurs first, and then the belt runs on as an ESTIMATE or enters LOST. -/
theorem lossTimerExpiryEstimatesOrLoses : Obligations.LossTimerExpiryEstimatesOrLoses := by
  refine ⟨fun s e timer forward speed => ?_, fun s e timer still => ?_, fun s timer => ?_⟩
  · let told := (s.putBelt s.belt.estimate).occur .encLost
    have expired : s.lossExpiry = told.handSource := by
      rw [State.lossExpiry, timer]
      exact if_pos ⟨forward, speed⟩
    have bears : Bears s told.handSource [.encLost] :=
      (((Bears.refl s).putBelt _).occur (by simp)).trans (bears_handSource _)
    have belt : told.handSource.belt = s.belt.estimate := by simp [told]
    have source : told.belt.source.kind = .estimate := by simp [told, Belt.estimate, Source.kind]
    have hands := State.handSourceFrom_hands told .encoder
    rw [State.handSourceFrom, if_neg (by rw [source]; decide)] at hands
    refine ⟨told.handSource, congrArg Host.Outcome.next expired, belt, ?_, ?_, by simp [told], by simp [told], by simp [told], bears.framed, bears.pins,
      bears.line, ?_⟩
    · exact (State.flag_offer told _ (by decide)).trans (State.flag_occur_self _ _)
    · rw [State.handSource, State.lanesSource, source]
      simp [told]
    · rw [belt]
      exact hands
  · let told := s.occur .encLost
    have expired : s.lossExpiry = told.enterLost .loss := by
      rw [State.lossExpiry, timer]
      exact if_neg fun ⟨forward, speed⟩ => still.elim (absurd forward) (Nat.pos_iff_ne_zero.mp speed)
    have occurs : Bears s told [.encLost, .trackHalt] := (Bears.refl s).occur (by simp)
    have enters : Leads told (told.enterLost .loss) [.encLost, .trackHalt] (told.lostLine .loss) :=
      leads_enterLost told .loss (.inr (by simp))
    have alone : Leads told (told.enterLost .loss) [.trackHalt] (told.lostLine .loss) :=
      leads_enterLost told .loss (.inr (by simp))
    have line : told.lostLine .loss = s.haltedLine .loss := by
      have kept : told.ctrl.line = s.ctrl.line := occurs.line
      change told.haltedLine .loss = _
      rw [State.haltedLine, State.haltedLine, kept]
    have belt : (told.enterLost .loss).belt = s.belt.lose := by simp [told]
    have handed := State.enterLost_hands told .loss
    have sameBelt : told.belt = s.belt := by simp [told]
    rw [sameBelt] at handed
    have leads := occurs.then_leads enters
    refine ⟨told.enterLost .loss, congrArg Host.Outcome.next expired, ?_⟩
    rw [belt]
    refine ⟨rfl, ?_, s.belt.position_lose, ?_, rfl, rfl, ?_, State.source_lanes_enterLost told .loss, handed, leads.framed,
      leads.pins, leads.line.trans line⟩
    · rw [Belt.lose_eq]
    · rw [Belt.lose_eq]
      rfl
    · rw [alone.framed.flags .encLost (by decide) (by decide)]
      exact State.flag_occur_self _ _
  · have still : s.lossExpiry = s := by rw [State.lossExpiry, timer]
    exact congrArg _ still

/-! ### The limit timer, the confirming gap and the silence timer (R22 to R25) -/

/-- A loss of the source that ends with a line state (R22, R24): the belt LOST and STOPPED where it stands, and the frame. -/
def LostTo (s t : State) (line : LineState) : Prop :=
  t.belt.source = .lost ∧ t.belt.motion = .stopped ∧ t.belt.position = s.belt.position ∧ t.belt.gen = none ∧
  t.belt.history = [] ∧ t.belt.limitTimer = none ∧ t.belt.limitExpired = false ∧ t.lanes.source = .lost ∧
  Framed s t [.trackHalt] ∧ t.pins = s.pins ∧ t.ctrl.line = line

/-- An entry into LOST is such a loss, handed with its cause. -/
theorem State.enterLost_lostTo (s : State) (cause : LostCause) : LostTo s (s.enterLost cause) (s.lostLine cause) ∧
    HandsLost { s with belt := (s.enterLost cause).belt } cause s.belt.motion (s.enterLost cause) := by
  have leads : Leads s (s.enterLost cause) [.trackHalt] (s.lostLine cause) := leads_enterLost s cause (.inr (by simp))
  have handed := s.enterLost_hands cause
  unfold LostTo
  rw [State.belt_enterLost]
  refine ⟨⟨rfl, ?_, s.belt.position_lose, rfl, rfl, rfl, rfl, s.source_lanes_enterLost cause, leads.framed, leads.pins,
    leads.line⟩, handed⟩
  rw [Belt.lose_eq]

/-- A line that a halt has met is not halted again (R150). -/
theorem State.haltedLine_again {s t : State} {why : HaltCause} (h : t.ctrl.line = s.haltedLine why) (why' : HaltCause) :
    t.haltedLine why' = s.haltedLine why := by
  unfold State.haltedLine at h ⊢
  rw [h]
  split
  · exact if_neg (by nofun)
  · rfl

/-- One event that can halt after another. -/
theorem Leads.trans {s t u : State} {fs : List FaultFlag} {l l' : LineState} (h : Leads s t fs l) (g : Leads t u fs l') :
    Leads s u fs l' := ⟨h.framed.trans g.framed, g.pins.trans h.pins, g.line⟩

/-- A loss and a silence taken together, in either order: the one that is taken first names the halt (R25, R148). -/
theorem leads_gapAndSilence (s : State) (run : s.belt.run = true) :
    Leads s ((s.takeLost .gap).takeSilence) [.trackHalt] (s.haltedLine .gap) ∧
    Leads s (s.takeSilence.takeLost .gap) [.trackHalt] (s.haltedLine .silence) := by
  have halts : ∀ (t : State) why, Leads t (t.halt why) [.trackHalt] (t.haltedLine why) := fun t why =>
    leads_halt t why (by simp)
  have gap : ∀ t : State, t.belt.run = true → t.takeLost .gap = t.halt .gap := fun t ht =>
    t.takeLost_eq .gap .gap (by rw [ht]; rfl)
  have still : s.takeSilence.belt.run = true := by
    have belt : s.takeSilence.belt = s.belt := by simp [State.takeSilence]
    rw [belt, run]
  rw [gap s run, gap _ still]
  constructor
  · have second := (halts s .gap).trans (halts _ .silence)
    rwa [State.haltedLine_again (halts s .gap).line] at second
  · have second := (halts s .silence).trans (halts _ .gap)
    rwa [State.haltedLine_again (halts s .silence).line] at second

/-- A CONFIRMING begun in LOST that fails with the restart mark set and RUN active hands loss and silence together (R25). -/
theorem State.gapFromLost_restart (s : State) (restart : s.belt.restart = true) (run : s.belt.run = true) :
    let t := s.gapFromLost
    ∃ why, LostTo s t (s.haltedLine why) ∧ t.belt.restart = false ∧ (why = .gap ∨ why = .silence) ∧ ∃ o : List Nat,
      let told : State := { ToldLost { s with belt := t.belt } .gap with order := o }
      HandsMotion ((told.takeLost .gap).takeSilence) s.belt.motion t ∨
      HandsMotion (told.takeSilence.takeLost .gap) s.belt.motion t := by
  let b : Belt := { s.belt.lose with restart := false }
  obtain ⟨o, ho⟩ := (ToldLost (s.putBelt b) .gap).choose_snd 2
  let told : State := { ToldLost (s.putBelt b) .gap with order := o }
  have before : Bears s told [.trackHalt] := by
    have chosen : Bears s ((ToldLost (s.putBelt b) .gap).choose 2).2 [.trackHalt] :=
      (((Bears.refl s).putBelt b).trans (bears_toldLost _ _)).trans (bears_choose _ 2)
    rwa [ho] at chosen
  have sameBelt : told.belt = b := State.belt_offer _ _
  have runs : told.belt.run = true := by
    rw [sameBelt]
    change s.belt.lose.run = true
    rw [Belt.lose_eq]
    exact run
  have handed : ∃ x : State, s.gapFromLost = x.handMotion s.belt.motion ∧
      (x = (told.takeLost .gap).takeSilence ∨ x = told.takeSilence.takeLost .gap) := by
    have told' : ((s.putBelt b).offer (.source .lost (some .gap))).lanesSource .lost = ToldLost (s.putBelt b) .gap := by
      unfold ToldLost State.lanesSource
      rw [State.lanes_offer]
    unfold State.gapFromLost
    rw [if_pos ⟨restart, run⟩]
    refine ⟨_, rfl, ?_⟩
    unfold State.handLostAndSilence
    dsimp only
    rw [told', ho]
    split
    · exact .inl rfl
    · exact .inr rfl
  obtain ⟨first, second⟩ := leads_gapAndSilence told runs
  have line : ∀ why, told.haltedLine why = s.haltedLine why := fun why => by
    rw [State.haltedLine, State.haltedLine, before.line]
  obtain ⟨x, handed, which⟩ := handed
  have belt : x.belt = b ∧ x.lanes.source = .lost := by
    rcases which with rfl | rfl
    · exact ⟨by simp [State.takeSilence, sameBelt], by rw [State.takeSilence, State.source_halt, State.source_takeLost]; rfl⟩
    · exact ⟨by simp [State.takeSilence, sameBelt], by rw [State.source_takeLost, State.takeSilence, State.source_halt]; rfl⟩
  obtain ⟨belt, source⟩ := belt
  have belt' : s.gapFromLost.belt = b := by
    rw [handed, (State.handMotion_frame _ _).1, belt]
  have leads : ∃ why, (why = .gap ∨ why = .silence) ∧ Leads s x [.trackHalt] (s.haltedLine why) := by
    rcases which with rfl | rfl
    · exact ⟨.gap, .inl rfl, line .gap ▸ before.then_leads first⟩
    · exact ⟨.silence, .inr rfl, line .silence ▸ before.then_leads second⟩
  obtain ⟨why, causes, leads⟩ := leads
  have leads := leads.then_bears (bears_handMotion x s.belt.motion)
  rw [← handed] at leads
  dsimp only
  unfold LostTo
  refine ⟨why, ?_, ?_, causes, o, ?_⟩
  · rw [belt']
    refine ⟨rfl, ?_, s.belt.position_lose, rfl, rfl, rfl, rfl, ?_, leads.framed, leads.pins, leads.line⟩
    · change s.belt.lose.motion = .stopped
      rw [Belt.lose_eq]
    · rw [handed, State.source_handMotion, source]
  · rw [belt']
  · rw [belt', handed]
    rcases which with rfl | rfl
    · exact .inl (State.handMotion_hands _ _)
    · exact .inr (State.handMotion_hands _ _)

/-- A CONFIRMING begun in ESTIMATE that fails with the belt running forward is an ESTIMATE again (R24). -/
theorem State.gapExpiry_again (s : State) (c : Confirmation) (hs : s.belt.source = .confirming c)
    (ho : c.origin = .estimate) (open' : s.belt.limitExpired = false) (forward : s.belt.motion = .forward) :
    s.gapExpiry = (s.putBelt s.belt.estimateAgain).handSource := by
  simp [State.gapExpiry, hs, ho, open', forward]

/-- Settles O35: each end of an ESTIMATE or a CONFIRMING is an entry into LOST with its cause, or the ESTIMATE again. -/
theorem limitGapAndSilenceEndTheEstimate : Obligations.LimitGapAndSilenceEndTheEstimate := by
  unfold Obligations.LimitGapAndSilenceEndTheEstimate
  intro lost halted handed
  have loses : ∀ (s t : State) (cause : LostCause) (line : LineState), t = s.enterLost cause → s.lostLine cause = line →
      lost s t line ∧ handed s t cause := fun s t cause line ht hl => by
    rw [ht, ← hl]
    exact s.enterLost_lostTo cause
  refine ⟨fun s e timer hs => ⟨s.enterLost .limit, ?_, loses s _ .limit _ rfl rfl⟩, fun s e c timer hs => ?_,
    fun s timer => ?_, fun s c hs ho => ⟨fun expired => ⟨s.enterLost .limit, ?_, loses s _ .limit _ rfl rfl⟩,
      fun within reverse => ⟨s.enterLost .loss, ?_, loses s _ .loss _ rfl rfl⟩, fun within forward => ?_⟩,
    fun s c hs ho => ⟨fun still => ?_, fun restart run => ?_⟩, fun s other => ?_, fun s e timer => ?_, fun s timer => ?_⟩
  · have expired : s.limitExpiry = s.enterLost .limit := by simp only [State.limitExpiry, timer, hs]
    exact congrArg Host.Outcome.next expired
  · have marked : s.limitExpiry = s.putBelt { s.belt with limitTimer := none, limitExpired := true } := by
      simp only [State.limitExpiry, timer, hs]
    exact congrArg Host.Outcome.next marked
  · have still : s.limitExpiry = s := by simp only [State.limitExpiry, timer]
    exact congrArg Host.Outcome.next still
  · have failed : s.gapExpiry = s.enterLost .limit := by simp [State.gapExpiry, hs, ho, expired]
    exact congrArg Host.Outcome.next failed
  · have failed : s.gapExpiry = s.enterLost .loss := by simp [State.gapExpiry, hs, ho, within, reverse]
    exact congrArg Host.Outcome.next failed
  · let x := s.putBelt s.belt.estimateAgain
    have bears : Bears s x.handSource [] := ((Bears.refl s).putBelt _).trans (bears_handSource _)
    have belt : x.handSource.belt = s.belt.estimateAgain := by simp [x]
    have hands := State.handSourceFrom_hands x .confirming
    have changed : ¬ x.belt.source.kind = .confirming := by simp [x, Belt.estimateAgain, Source.kind]
    rw [State.handSourceFrom, if_neg changed] at hands
    refine ⟨x.handSource, congrArg Host.Outcome.next (s.gapExpiry_again c hs ho within forward), ?_⟩
    rw [belt]
    exact ⟨rfl, rfl, rfl, rfl, rfl, forward, rfl, bears.framed, by simp [x], by simp [x], by simp [x], bears.pins,
      bears.line, hands⟩
  · have failed : s.gapExpiry = s.enterLost .gap := by
      have alone : ¬ (s.belt.restart = true ∧ s.belt.run = true) := fun ⟨restart, run⟩ =>
        still.elim (fun h => by rw [h] at restart; cases restart) (fun h => by rw [h] at run; cases run)
      simp only [State.gapExpiry, hs, ho, State.gapFromLost, if_neg alone]
    refine ⟨s.enterLost .gap, congrArg Host.Outcome.next failed, loses s _ .gap _ rfl ?_⟩
    cases run : s.belt.run <;> simp only [State.lostLine, haltCauseOf, run] <;> rfl
  · have failed : s.gapExpiry = s.gapFromLost := by simp only [State.gapExpiry, hs, ho]
    obtain ⟨why, lostTo, rest⟩ := s.gapFromLost_restart restart run
    exact ⟨s.gapFromLost, why, congrArg Host.Outcome.next failed, lostTo, rest⟩
  · have still : s.gapExpiry = s := by
      unfold State.gapExpiry
      split
      · rename_i c hs
        exact absurd hs (other c)
      all_goals rfl
    exact congrArg Host.Outcome.next still
  · let x := s.putBelt { s.belt with silenceTimer := none, restart := false }
    have silent : s.silenceExpiry = x.takeSilence := by simp only [State.silenceExpiry, timer]; rfl
    have leads : Leads s x.takeSilence [.trackHalt] (x.haltedLine .silence) :=
      ((Bears.refl s).putBelt _).then_leads (leads_halt x .silence (by simp))
    have belt : x.takeSilence.belt = { s.belt with silenceTimer := none, restart := false } := by
      simp [x, State.takeSilence]
    exact ⟨x.takeSilence, congrArg Host.Outcome.next silent, belt, leads.framed, leads.pins, leads.line, by rw [belt]; rfl⟩
  · have still : s.silenceExpiry = s := by simp only [State.silenceExpiry, timer]
    exact congrArg Host.Outcome.next still

end Sys2Proof.Machine
end

section
/-! PROOFS. SET_LINE in CONFIG: the restart of the PWM base (R124) and the change of the encoder mode (R5). -/

namespace Sys2Proof.Machine

/-! ### The restart of the PWM base (R124) -/

/-- A holding output at its place in the period (R122). -/
def Valve.refreshed (period base : Nat) (v : Fin 16) (x : Valve) : Valve :=
  { x with out := if x.holding = true then
      decide ((base + period - periodOffset period v) % period < onTime period x.duty) else x.out }

/-- A valve at a restart of the base: a new offset of 0 takes its pending duty, and a holding output goes by its place. -/
def Valve.restarted (period base : Nat) (v : Fin 16) (x : Valve) : Valve :=
  Valve.refreshed period base v (if periodOffset period v = 0 then { x with duty := x.pendingDuty } else x)

/-- Writing a valve as it is changes nothing. -/
theorem State.putValve_self (s : State) (v : Fin 16) : s.putValve v (s.valve v) = s := by
  have valves : s.drive.valves.set v (s.valve v) = s.drive.valves := Vector.set_getElem_self _
  rw [State.putValve, valves]

/-- A refresh writes the valve, and nothing else. -/
theorem State.refreshHold_eq (s : State) (v : Fin 16) :
    s.refreshHold v = s.putValve v ((s.valve v).refreshed s.drive.period s.drive.base v) := by
  unfold State.refreshHold Valve.refreshed
  split
  · rfl
  · exact (s.putValve_self v).symm

/-- The restart writes the valve, and nothing else. -/
theorem State.restartValve_eq (s : State) (v : Fin 16) :
    s.restartValve v = s.putValve v ((s.valve v).restarted s.drive.period s.drive.base v) := by
  unfold State.restartValve Valve.restarted
  rw [State.refreshHold_eq]
  split
  · rw [State.takePending, State.valve_putValve_self, State.putValve_putValve]
    rfl
  · rfl

/-- What each valve is after a restart of the base. -/
theorem State.valve_restartPwm (s : State) (period : Nat) (v : Fin 16) :
    (s.restartPwm period).valve v = (s.valve v).restarted period 0 v := by
  have each := foldl_allValves (f := State.restartValve)
    (get := fun t w => (State.valve t w, t.drive.period, t.drive.base))
    (g := fun w x => (x.1.restarted x.2.1 x.2.2 w, x.2.1, x.2.2))
    (fun t w => by
      rw [State.restartValve_eq, State.valve_putValve_self]
      rfl)
    (fun t w u h => by
      rw [State.restartValve_eq, State.valve_putValve, if_neg h]
      rfl)
    { s with drive := { s.drive with period := period, base := 0 } } v
  exact (Prod.mk.inj each).1

/-- A restart of the base writes the valves, the period and the base, and nothing else. -/
theorem State.restartPwm_eq (s : State) (period : Nat) : s.restartPwm period =
    { s with drive := { s.drive with valves := (s.restartPwm period).drive.valves, period := period, base := 0 } } := by
  obtain ⟨vs, h⟩ : ∃ vs, s.restartPwm period =
      { s with drive := { s.drive with valves := vs, period := period, base := 0 } } := by
    refine foldl_keeps (f := State.restartValve) (P := fun t : State => ∃ vs, t =
      { s with drive := { s.drive with valves := vs, period := period, base := 0 } }) ?_ allValves _ ⟨s.drive.valves, rfl⟩
    rintro t v ⟨vs, h⟩
    exact ⟨_, by rw [State.restartValve_eq, State.putValve, h]⟩
  rw [h]

/-- Of all valves, only valve 0 starts its period with the base (R121, Table 1-2). -/
theorem periodOffset_eq_zero {period : Nat} (h : 20 ≤ period) (v : Fin 16) : periodOffset period v = 0 ↔ v = 0 := by
  unfold periodOffset
  constructor
  · intro zero
    rcases Nat.div_eq_zero_iff.mp zero with none | small
    · cases none
    · refine Classical.byContradiction fun other => ?_
      have one : 1 ≤ v.val := Nat.pos_of_ne_zero fun e => other (Fin.ext e)
      have := Nat.mul_le_mul one h
      omega
  · rintro rfl
    rw [Fin.val_zero, Nat.zero_mul, Nat.zero_div]

/-- A PWM period in range restarts the base as the statements say (R124). -/
theorem pwmRestarted_restartPwm (w : State) {period : Nat} (h : 20 ≤ period) :
    PwmRestarted w (w.restartPwm period) period := by
  refine ⟨w.restartPwm_eq period, fun v => ?_⟩
  rw [State.valve_restartPwm, Valve.restarted]
  simp only [periodOffset_eq_zero h]
  by_cases first : v = 0
  · simp only [if_pos first]
    rfl
  · simp only [if_neg first]
    rfl

/-! ### SET_LINE accepted (R3 to R5) -/

/-- SET_LINE in CONFIG with its parameters in range: the part it leaves, and OK in the reply slot. -/
theorem exec_setLine (s : State) (tag : Byte) (q : LineParams) (hready : s.linkReady) (hline : s.ctrl.line = .config)
    (hq : q.wf) : exec (.setLine tag q.payload) s = .next ((s.applyLine q).withReply 0x90 tag [0] .nothing) := by
  have answered := exec_known (.setLine tag q.payload) .setLine tag q.payload s rfl rfl hready
  rw [handRequest, runSetLine_payload s q hline hq] at answered
  exact answered

/-! ### A change of the encoder mode (R5) -/

/-- The belt of a new encoder mode, in the words of the statement. -/
theorem Belt.changeMode_eq (b : Belt) (q : LineParams) : b.changeMode q =
    { par := q, encRef := none,
      gen := if q.mode = .timed ∧ RunThrough b.runFiltered q.polarity = true then some 0 else none,
      runFiltered := b.runFiltered, runTimer := b.runTimer, run := RunThrough b.runFiltered q.polarity,
      position := b.position, motion := .stopped, acc := 0, stopTimer := none,
      lossTimer := if q.mode ≠ .timed ∧ RunThrough b.runFiltered q.polarity = true then some 0 else none,
      limitTimer := none, limitExpired := false, silenceTimer := none, restart := false, history := [], last := none,
      frozen := 0, source := if q.mode = .timed then .timed else .encoder } := by
  unfold Belt.changeMode
  simp only [Belt.runLevel_eq, Bool.and_eq_true, decide_eq_true_eq, bne_iff_ne]

/-- A change of mode hands source and motion within the frame (R5, R17, R26). -/
theorem bears_lineNewMode (s : State) (q : LineParams) : Bears s (s.lineNewMode q) [] :=
  (((Bears.refl s).putBelt _).trans (bears_handSourceFrom _ _)).trans (bears_handMotion _ _)

/-- With no valve in PULL_IN or HOLD and the motion handed, a change of mode leaves lanes and stores, and the Valve Drive
but for the motion it holds (R5, R17). -/
theorem State.stores_lineNewMode (s : State) (q : LineParams) (idle : s.noneCarrying)
    (handed : s.drive.motion = s.belt.motion) : let w := s.lineNewMode q
    w.lanes.lanes = s.lanes.lanes ∧ w.table = s.table ∧ w.sched = s.sched ∧
      w.drive = { s.drive with motion := .stopped } := by
  let x := (s.putBelt (s.belt.changeMode q)).handSourceFrom s.belt.source.kind
  have lanes : x.lanes.lanes = s.lanes.lanes := by
    simp only [x, State.handSourceFrom]
    split
    · rfl
    · simp [State.handSource, State.lanesSource]
  have table : x.table = s.table := by simp [x]
  have sched : x.sched = s.sched := by simp [x]
  have drive : x.drive = s.drive := by simp [x]
  have stopped : x.belt.motion = .stopped := by simp [x, Belt.changeMode_eq]
  have handedAs : s.lineNewMode q = x.handMotion s.belt.motion := rfl
  dsimp only
  rw [handedAs]
  by_cases still : s.belt.motion = .stopped
  · rw [State.handMotion, if_pos (stopped.trans still.symm)]
    refine ⟨lanes, table, sched, ?_⟩
    rw [drive, ← still, ← handed]
  · have changed : x.belt.motion ≠ s.belt.motion := fun e => still (e.symm.trans stopped)
    have none : x.noneCarrying := fun v => by
      rw [State.valve_of_drive drive v]
      exact idle v
    obtain ⟨table', sched', drive'⟩ := x.stores_handMotion s.belt.motion changed stopped (.inr none)
    have lanes' := x.lanes_handMotion s.belt.motion changed (by rw [stopped]; decide)
    exact ⟨by rw [lanes']; exact lanes, table'.trans table, sched'.trans sched, by rw [drive', drive]⟩

/-- Settles O22: the belt of the new mode, handed source first, then motion, and then the PWM period. -/
theorem setLineNewModeRestartsCounting : Obligations.SetLineNewModeRestartsCounting := by
  intro s tag q hready hline hq handed idle changed
  have period : 20 ≤ q.pwmPeriod := by
    obtain ⟨_, _, _, _, _, ⟨period, _⟩⟩ := hq
    exact period
  have applied : s.applyLine q = (s.lineNewMode q).restartPwm q.pwmPeriod := by
    rw [State.applyLine, if_neg changed]
  have motion : s.drive.motion = s.belt.motion := by
    obtain ⟨_, _, _, _, motion, _⟩ := handed
    exact motion
  obtain ⟨lanes, table, sched, drive⟩ := s.stores_lineNewMode q idle motion
  have bears := bears_lineNewMode s q
  refine ⟨s.lineNewMode q, s.applyLine q, exec_setLine s tag q hready hline hq, applied ▸ pwmRestarted_restartPwm _ period,
    State.handedWf_applyLine q handed, ?_, drive, bears.line.trans hline, table, sched, bears.pins, fun l => ?_,
    bears.framed, _, ?_, State.handMotion_hands _ _⟩
  · rw [State.belt_lineNewMode, Belt.changeMode_eq]
  · rw [State.lane, lanes]
    rfl
  · rw [State.belt_lineNewMode]
    exact State.handSourceFrom_hands _ _

end Sys2Proof.Machine
end

section
/-! PROOFS. SET_LINE in the same encoder mode (R4): which effects are due, and that each is its event's. -/

namespace Sys2Proof.Machine

/-! ### What is due (R4) -/

/-- A timer at or past its value. -/
theorem timerAt_iff (t : Option Nat) (ms : Nat) : timerAt t ms = true ↔ ∃ e, t = some e ∧ ms * 1000 ≤ e := by
  cases t <;> simp [timerAt]

/-- A CONFIRMING whose last count lies further back than the loss time (R24). -/
theorem Belt.gapOver_iff (b : Belt) : b.gapOver = true ↔ ∃ c, b.source = .confirming c ∧ b.par.lossTime * 1000 < c.gap := by
  cases h : b.source <;> simp [Belt.gapOver, h]

/-- The model's due effects are the statement's (R4). -/
theorem LineEffect.due_iff (s : State) (e : LineEffect) : LineEffect.due s e = true ↔ LineDue s.belt e := by
  cases e with
  | run => simp [LineEffect.due, LineDue, Belt.runLevel_eq]
  | stop => exact timerAt_iff _ _
  | loss => exact timerAt_iff _ _
  | limit => exact timerAt_iff _ _
  | gap => exact s.belt.gapOver_iff
  | silence => exact timerAt_iff _ _

/-- Without a due effect SET_LINE changes the parameters and the accumulator alone (R4). -/
theorem State.lineSameMode_still (s : State) (q : LineParams)
    (h : ∀ e, ¬ LineDue { s.belt with par := q, acc := 0 } e) :
    s.lineSameMode q = s.putBelt { s.belt with par := q, acc := 0 } := by
  let s1 := s.putBelt { s.belt with par := q, acc := 0 }
  have none : LineEffect.all.filter (LineEffect.due s1) = [] :=
    List.filter_eq_nil_iff.mpr fun e _ due => h e ((LineEffect.due_iff s1 e).mp due)
  unfold State.lineSameMode
  dsimp only
  rw [none, State.settle_nil]
  rfl

/-- With one due effect SET_LINE fires it (R4). -/
theorem State.lineSameMode_fires (s : State) (q : LineParams) (e : LineEffect)
    (h : LineDue { s.belt with par := q, acc := 0 } e)
    (alone : ∀ e', LineDue { s.belt with par := q, acc := 0 } e' → e' = e) :
    s.lineSameMode q = LineEffect.fire (s.putBelt { s.belt with par := q, acc := 0 }) e := by
  let s1 := s.putBelt { s.belt with par := q, acc := 0 }
  have due : LineEffect.due s1 e = true := (LineEffect.due_iff s1 e).mpr h
  have only : LineEffect.due s1 = (· == e) := by
    funext e'
    rw [Bool.eq_iff_iff, beq_iff_eq]
    exact ⟨fun h' => alone e' ((LineEffect.due_iff s1 e').mp h'), fun same => same ▸ due⟩
  have one : LineEffect.all.filter (LineEffect.due s1) = [e] := by
    rw [only]
    cases e <;> rfl
  unfold State.lineSameMode
  dsimp only
  rw [one]
  exact if_pos due

/-! ### The time that the RUN filter and the pins play no part in RUN's effect (R10) -/

/-- The part with another time of the RUN filter and other pins. -/
def State.refiltered (n : Nat) (p : Pins) (s : State) : State := { s with belt := { s.belt with runTimer := n }, pins := p }

section refiltered

variable (n : Nat) (p : Pins)

/-- A choice among open orders. -/
theorem State.choose_refiltered (s : State) (k : Nat) :
    (s.refiltered n p).choose k = ((s.choose k).1, (s.choose k).2.refiltered n p) := by
  unfold State.choose
  have order : (s.refiltered n p).order = s.order := rfl
  rw [order]
  split <;> rfl

/-- An offer. -/
theorem State.offer_refiltered (s : State) (x : Notice) : (s.refiltered n p).offer x = (s.offer x).refiltered n p := by
  have fault : ∀ t : State, (t.refiltered n p).offerDropFault = t.offerDropFault.refiltered n p := fun t => by
    have link : (t.refiltered n p).link = t.link := rfl
    unfold State.offerDropFault
    rw [State.choose_refiltered, link]
    split
    · dsimp only
      split <;> rfl
    · rfl
  have dropped : (s.refiltered n p).noticeDropped = s.noticeDropped.refiltered n p := by
    have flag : (s.refiltered n p).flag .noticeDrop = s.flag .noticeDrop := rfl
    unfold State.noticeDropped
    rw [flag]
    dsimp only
    split
    · rfl
    · exact fault (s.putFlag .noticeDrop ⟨true, false⟩)
  have link : (s.refiltered n p).link = s.link := rfl
  unfold State.offer
  rw [link]
  split
  · split
    · rfl
    · exact dropped
  · rfl

/-- Cuts. -/
theorem State.foldl_cutWhere_refiltered (vs : List (Fin 16)) (s : State) :
    vs.foldl (State.cutWhere Valve.carrying) (s.refiltered n p) =
      (vs.foldl (State.cutWhere Valve.carrying) s).refiltered n p :=
  List.foldl_hom (State.refiltered n p) fun t v => by
    have valve : (t.refiltered n p).valve v = t.valve v := rfl
    unfold State.cutWhere
    rw [valve]
    split
    · unfold State.cutOpenAction
      rw [State.writeOutcomes_eq_withOutcomes, State.writeOutcomes_eq_withOutcomes]
      rfl
    · rfl

/-- The Valve Drive takes a motion change. -/
theorem State.driveMotion_refiltered (s : State) (old new : Motion) :
    (s.refiltered n p).driveMotion old new = (s.driveMotion old new).refiltered n p := by
  by_cases leaves : old = .forward ∧ new ≠ .forward
  · obtain ⟨rfl, left⟩ := leaves
    rw [State.driveMotion_leaves _ _ left, State.driveMotion_leaves _ _ left]
    exact State.foldl_cutWhere_refiltered n p allValves { s with drive := { s.drive with motion := new } }
  · have other : old ≠ .forward ∨ new = .forward := by
      by_cases forward : old = .forward
      · exact .inr (Classical.not_not.mp fun left => leaves ⟨forward, left⟩)
      · exact .inl forward
    rw [State.driveMotion_other _ _ _ other, State.driveMotion_other _ _ _ other]
    rfl

/-- A motion change other than one to REVERSE is handed. -/
theorem State.handMotion_refiltered (s : State) (old : Motion) (h : s.belt.motion ≠ .reverse) :
    (s.refiltered n p).handMotion old = (s.handMotion old).refiltered n p := by
  have motion : (s.refiltered n p).belt.motion = s.belt.motion := rfl
  have notice : (s.refiltered n p).motionNotice = s.motionNotice := rfl
  have lanes : ∀ t : State, (t.refiltered n p).lanesMotion s.belt.motion =
      (t.lanesMotion s.belt.motion).refiltered n p := fun t => by
    rw [State.lanesMotion_other _ _ h, State.lanesMotion_other _ _ h]
    rfl
  have ctrl : ∀ t : State, (t.refiltered n p).ctrlMotion s.belt.motion =
      (t.ctrlMotion s.belt.motion).refiltered n p := fun t => rfl
  unfold State.handMotion
  rw [motion, notice, State.choose_refiltered]
  dsimp only
  split
  · rfl
  split
  · rw [State.offer_refiltered, lanes, State.driveMotion_refiltered, ctrl]
  · rw [lanes, State.driveMotion_refiltered, ctrl, State.offer_refiltered]

/-- A loss by RUN_OFF. -/
theorem State.enterLost_refiltered (s : State) :
    (s.refiltered n p).enterLost .runOff = (s.enterLost .runOff).refiltered n p := by
  have told : ((s.refiltered n p).putBelt (s.refiltered n p).belt.lose).handLost .runOff =
      ((s.putBelt s.belt.lose).handLost .runOff).refiltered n p := by
    have belt : (s.refiltered n p).putBelt (s.refiltered n p).belt.lose = (s.putBelt s.belt.lose).refiltered n p := by
      unfold State.refiltered State.putBelt
      rw [Belt.lose_eq, Belt.lose_eq]
    rw [State.handLost_eq, State.handLost_eq, State.takeLost_none _ _ rfl, State.takeLost_none _ _ rfl, belt, ToldLost,
      ToldLost, State.offer_refiltered]
    rfl
  have stopped : ((s.putBelt s.belt.lose).handLost .runOff).belt.motion = .stopped := by
    rw [State.handLost_eq, State.takeLost_none _ _ rfl, ToldLost, State.belt_offer]
    change s.belt.lose.motion = .stopped
    rw [Belt.lose_eq]
  unfold State.enterLost
  rw [told]
  exact State.handMotion_refiltered n p _ _ (by rw [stopped]; decide)

/-- A change of RUN. -/
theorem State.syncRun_refiltered (s : State) : (s.refiltered n p).syncRun = s.syncRun.refiltered n p := by
  have level : (s.refiltered n p).belt.runLevel = s.belt.runLevel := rfl
  have run : (s.refiltered n p).belt.run = s.belt.run := rfl
  have source : (s.refiltered n p).belt.source = s.belt.source := rfl
  have off : (s.refiltered n p).putBelt (s.refiltered n p).belt.runOff = (s.putBelt s.belt.runOff).refiltered n p := rfl
  unfold State.syncRun
  dsimp only
  rw [level, run, source, off]
  split
  · rfl
  split
  · unfold State.refiltered State.putBelt Belt.runOn
    cases s.belt.source with
    | confirming c => cases ho : c.origin <;> simp only [ho]
    | _ => rfl
  split
  · rfl
  · have stopped : s.belt.runOff.stop.motion = .stopped := by
      obtain ⟨_, _, _, motion⟩ := s.belt.runOff.stop_keeps
      exact motion
    have belt : ((s.putBelt s.belt.runOff).refiltered n p).putBelt
        { ((s.putBelt s.belt.runOff).refiltered n p).belt.stop with gen := none } =
        (s.putBelt { s.belt.runOff.stop with gen := none }).refiltered n p := by
      unfold State.refiltered State.putBelt Belt.stop
      dsimp only
      split <;> rfl
    rw [belt]
    exact State.handMotion_refiltered n p (s.putBelt { s.belt.runOff.stop with gen := none }) _
      (by change s.belt.runOff.stop.motion ≠ _; rw [stopped]; decide)
  · exact State.enterLost_refiltered n p _
  · exact State.enterLost_refiltered n p _
  · rfl

end refiltered

/-! ### Each effect is its event's (R4) -/

/-- No effect touches the time of the RUN filter. -/
theorem LineEffect.runTimer_fire (s : State) (e : LineEffect) : (LineEffect.fire s e).belt.runTimer = s.belt.runTimer := by
  have stop : ∀ b : Belt, b.stop.runTimer = b.runTimer := fun b => by
    unfold Belt.stop
    split <;> rfl
  have lose : ∀ b : Belt, b.lose.runTimer = b.runTimer := fun b => by rw [Belt.lose_eq]
  have runOn : ∀ b : Belt, b.runOn.runTimer = b.runTimer := fun b => by
    unfold Belt.runOn
    repeat' split
    all_goals rfl
  cases e with
  | run =>
    change s.syncRun.belt.runTimer = _
    unfold State.syncRun
    dsimp only
    (repeat' split) <;> simp [runOn, lose, stop, Belt.runOff, Belt.restartStop]
  | stop =>
    change s.stopExpiry.belt.runTimer = _
    unfold State.stopExpiry
    split <;> simp [stop]
  | loss =>
    change s.lossExpiry.belt.runTimer = _
    unfold State.lossExpiry
    (repeat' split) <;> simp [lose, Belt.estimate]
  | limit =>
    change s.limitExpiry.belt.runTimer = _
    unfold State.limitExpiry
    (repeat' split) <;> simp [lose]
  | gap =>
    change s.gapExpiry.belt.runTimer = _
    unfold State.gapExpiry State.gapFromLost
    (repeat' split) <;> simp [lose, Belt.estimateAgain]
  | silence =>
    change s.silenceExpiry.belt.runTimer = _
    unfold State.silenceExpiry
    split <;> simp

/-- The command of an effect leaves what the effect leaves, but for the time of the RUN filter and the RUN pin (R4). -/
theorem exec_effectCommand (s : State) (e : LineEffect) : ∃ w : State,
    exec (EffectCommand s.belt.runFiltered e) s = .next w ∧
      w.refiltered s.belt.runTimer s.pins = LineEffect.fire s e := by
  have same : ∀ w : State, w = LineEffect.fire s e → w.refiltered s.belt.runTimer s.pins = LineEffect.fire s e :=
    fun w hw => by
      have timer := LineEffect.runTimer_fire s e
      obtain ⟨_, pins, _⟩ := LineEffect.fire_frame s e
      rw [hw, State.refiltered, ← timer, ← pins]
  cases e with
  | run =>
    let pins : Pins := { s.pins with run := s.belt.runFiltered }
    have expiry : exec (.runChange s.belt.runFiltered) s = .next (s.refiltered 0 pins).syncRun := rfl
    refine ⟨(s.refiltered 0 pins).syncRun, expiry, ?_⟩
    rw [State.syncRun_refiltered]
    exact same s.syncRun rfl
  | stop => exact ⟨s.stopExpiry, rfl, same _ rfl⟩
  | loss => exact ⟨s.lossExpiry, rfl, same _ rfl⟩
  | limit => exact ⟨s.limitExpiry, rfl, same _ rfl⟩
  | gap => exact ⟨s.gapExpiry, rfl, same _ rfl⟩
  | silence => exact ⟨s.silenceExpiry, rfl, same _ rfl⟩

/-- Settles O23: with nothing due the parameters alone change; with one thing due its event follows; then the base
restarts. -/
theorem setLineSameModeKeepsTheBelt : Obligations.SetLineSameModeKeepsTheBelt := by
  intro s tag q hready hline hq mode s1
  have period : 20 ≤ q.pwmPeriod := by
    obtain ⟨_, _, _, _, _, ⟨period, _⟩⟩ := hq
    exact period
  have applied : s.applyLine q = (s.lineSameMode q).restartPwm q.pwmPeriod := by
    rw [State.applyLine, if_pos mode]
  have answered := exec_setLine s tag q hready hline hq
  refine ⟨fun still => ⟨s.applyLine q, answered, ?_⟩, fun e due alone => ?_⟩
  · rw [applied, s.lineSameMode_still q still]
    exact pwmRestarted_restartPwm _ period
  · obtain ⟨w, runs, fires⟩ := exec_effectCommand s1 e
    refine ⟨w, s.applyLine q, runs, answered, ?_⟩
    rw [applied, s.lineSameMode_fires q e due alone]
    exact fires ▸ pwmRestarted_restartPwm _ period

end Sys2Proof.Machine
end

section
/-! PROOFS. The examination of the head of a queue (R104 to R106) and what it does to its valve (R117, R118, R120, R139). -/

namespace Sys2Proof.Machine

/-! ### Openings (R118, R139) -/

/-- An opening, by the state of its valve. -/
theorem opens_startOpening (s : State) (v : Fin 16) : Opens s v := by
  refine ⟨fun idle pull => ?_, fun idle none => ?_, fun d test => ?_, fun d test => ?_⟩
  · simp only [State.startOpening, idle, if_pos pull]
  · have none : ¬ 0 < (s.valve v).cfg.pullIn := by omega
    simp only [State.startOpening, idle, if_neg none]
    rfl
  · simp only [State.startOpening, test]
  · simp only [State.startOpening, test]

/-! ### The head (R104 to R106) -/

section head

variable (p : Pos) (v : Fin 16) {a : Action} (as : List Action) {s : State}

/-- An action is over when its close point is reached, or nothing of it stays (R104, R106). -/
theorem Action.over_eq_true_of_close (adv : Advance) (h : effCloseReached p adv a.closeAt = true) :
    a.over p adv = true := by
  rw [Action.over, h, Bool.true_or]

/-- An action whose close point is not reached and of which something stays goes on. -/
theorem Action.over_eq_false (adv : Advance) (h : effCloseReached p adv a.closeAt = false) (stay : a.staying p adv ≠ []) :
    a.over p adv = false := by
  rw [Action.over, h, Bool.false_or, Bool.eq_false_iff]
  exact fun none => stay (List.isEmpty_iff.mp none)

/-- A QUEUED head that is over, or that meets a rail that is LOW, is removed unopened (R104, R130). -/
theorem State.examineQueue_misses (hq : a.state = .queued) (opens : effOpenReached p (s.advance v) a.openAt = true)
    (h : a.over p (s.advance v) = true ∨ s.drive.rail = .low) :
    State.examineQueue p v (a :: as) s = State.examineQueue p v as (s.writeOutcomes .missed a.contribs) := by
  have closed : (a.over p (s.advance v) || s.drive.rail == .low) = true := by
    rcases h with h | h
    · rw [h, Bool.true_or]
    · rw [h]
      exact Bool.or_true _
  rw [State.examineQueue, hq]
  simp only [opens, closed]
  rfl

/-- A QUEUED head whose open point is reached in time opens (R104, R105). -/
theorem State.examineQueue_opens (hq : a.state = .queued) (opens : effOpenReached p (s.advance v) a.openAt = true)
    (h : a.over p (s.advance v) = false) (rail : s.drive.rail = .normal) :
    State.examineQueue p v (a :: as) s =
      (((s.writeOutcomes .missed (a.closing p (s.advance v))).writeOutcomes .active
        ((a.staying p (s.advance v)).filter (Contribution.starts p (s.advance v)))).putQueue v
          (a.carried p (s.advance v) :: as)).startOpening v := by
  rw [State.examineQueue, hq]
  simp only [opens, h, rail]
  rfl

/-- An OPEN head that is over ends (R106, R120). -/
theorem State.examineQueue_ends (ho : a.state = .opened) (h : a.over p (s.advance v) = true) :
    State.examineQueue p v (a :: as) s =
      State.examineQueue p v as ((s.writeOutcomes .done a.contribs).releaseValve v) := by
  rw [State.examineQueue, ho]
  simp only [h]
  rfl

/-- An OPEN head that is not over is carried on (R105). -/
theorem State.examineQueue_carries (ho : a.state = .opened) (h : a.over p (s.advance v) = false) :
    State.examineQueue p v (a :: as) s =
      ((s.writeOutcomes .done (a.closing p (s.advance v))).writeOutcomes .active
        ((a.staying p (s.advance v)).filter (Contribution.starts p (s.advance v)))).putQueue v
          (a.carried p (s.advance v) :: as) := by
  rw [State.examineQueue, ho]
  simp only [h]
  rfl

end head

/-- Settles O47: the head waits, is missed, opens, ends or is carried on, and each operation on the way is as it says. -/
theorem headExaminationOpensMissesAndEnds : Obligations.HeadExaminationOpensMissesAndEnds := by
  refine ⟨fun s u => ⟨fun forward => if_pos forward, fun other => if_neg other⟩, opens_startOpening,
    State.writeOutcomes_eq_withOutcomes, fun s v => rfl, fun x => ⟨fun off => ?_, fun high => ?_, fun low => ?_⟩,
    fun p v s => by rw [State.examineQueue], fun p v a as s => ?_⟩
  · simp only [Valve.pin, off]
  · cases on : x.out <;> simp only [Valve.pin, high, on] <;> rfl
  · cases on : x.out <;> simp only [Valve.pin, low, on] <;> rfl
  · intro adv opens closes shut begun stay open'
    refine ⟨fun hq waits => State.examineQueue_waits p v a as s hq waits, fun hq opened ended => ?_,
      fun hq opened within stays rail => ?_, fun ho ended => ?_, fun ho within stays => ?_⟩
    · exact State.examineQueue_misses p v as hq opened (ended.imp_left (Action.over_eq_true_of_close p adv))
    · exact State.examineQueue_opens p v as hq opened (Action.over_eq_false p adv within stays) rail
    · exact State.examineQueue_ends p v as ho (Action.over_eq_true_of_close p adv ended)
    · exact State.examineQueue_carries p v as ho (Action.over_eq_false p adv within stays)

end Sys2Proof.Machine
end

section
/-! PROOFS. The replies of QUERY_ITEM and QUERY_VALVE (R70, R141, Tables 9-16 to 9-19). -/

namespace Sys2Proof.Machine

/-! ### Lists of equal places (R182) -/

/-- Places of one length, one after the other. -/
theorem length_flatMap_of_length {α : Type} {n : Nat} {f : α → List Byte} :
    ∀ {xs : List α}, (∀ x ∈ xs, (f x).length = n) → (xs.flatMap f).length = n * xs.length
  | [], _ => rfl
  | x :: xs, h => by
    rw [List.flatMap_cons, List.length_append, h x List.mem_cons_self,
      length_flatMap_of_length fun y hy => h y (List.mem_cons_of_mem x hy), List.length_cons, Nat.mul_succ, Nat.add_comm]

/-! ### QUERY_ITEM (R70) -/

/-- A target's entry has ten bytes (Table 9-17). -/
theorem length_entryBytes (x : RecordTarget) : x.entryBytes.length = 10 := rfl

/-- The record's fields as the statement lays them out (Tables 9-16 and 9-17). -/
theorem ItemRecord.queryFields_eq (r : ItemRecord) (index : Nat) : r.queryFields index = ItemFields r index := by
  have targets : padTo 40 (r.progress.targets.flatMap RecordTarget.entryBytes) =
      r.progress.targets.flatMap RecordTarget.entryBytes ++ List.replicate (10 * (4 - r.progress.targets.length)) 0 := by
    rw [padTo, length_flatMap_of_length fun x _ => length_entryBytes x]
    congr 2
    omega
  have default : defaultKindCode (!r.snapshot.default.isEmpty) = if r.snapshot.default = [] then 1 else 2 := by
    cases r.snapshot.default <;> rfl
  unfold ItemRecord.queryFields ItemFields
  rw [targets, default]
  obtain ⟨_, _, _, _, _, _, _, progress⟩ := r
  cases progress with
  | decided c d ts =>
    simp only [Progress.closing?, Option.map_some, Option.getD_some, List.append_assoc]
    cases d <;> rfl
  | defaulted c ts =>
    simp only [Progress.closing?, Option.map_some, Option.getD_some, List.append_assoc]
    rfl
  | awaiting c =>
    simp only [Progress.closing?, Option.map_some, Option.getD_some, List.append_assoc]
    rfl
  | entering =>
    simp only [Progress.closing?, Option.map_none, Option.getD_none, List.append_assoc]
    rfl

/-- With at most four targets the fields have one length (Table 9-16). -/
theorem length_itemFields (r : ItemRecord) (k : Nat) (h : r.progress.targets.length ≤ 4) : (ItemFields r k).length = 74 := by
  rw [← ItemRecord.queryFields_eq]
  have targets : (padTo 40 (r.progress.targets.flatMap RecordTarget.entryBytes)).length = 40 := by
    rw [padTo, List.length_append, List.length_replicate, length_flatMap_of_length fun x _ => length_entryBytes x]
    omega
  simp [ItemRecord.queryFields, targets, put8, put16, put32, putHalf, putWord]

/-- The record of a tag is the first that carries it, and its index counts those before it. -/
theorem State.record?_first (s : State) (tag : Nat) (before behind : List ItemRecord) (r : ItemRecord)
    (h : s.table.records = before ++ r :: behind) (other : ∀ x ∈ before, x.tag ≠ tag) (hr : r.tag = tag) :
    s.record? tag = some r ∧ s.table.records.findIdx (fun q => q.tag == tag) = before.length := by
  have none : before.find? (fun q => q.tag == tag) = none := List.find?_eq_none.mpr fun x hx => by simpa using other x hx
  constructor
  · rw [State.record?, h, List.find?_append, none, Option.none_or, List.find?_cons_of_pos (by simpa using hr)]
  · rw [h, List.findIdx_append]
    simp only [hr, List.findIdx_cons, beq_self_eq_true, cond_true, Nat.zero_add]
    have absent : ¬ List.findIdx (fun q : ItemRecord => q.tag == tag) before < before.length := fun found =>
      other _ (List.getElem_mem found) (by simpa using List.findIdx_getElem (w := found))
    rw [if_neg absent]

/-! ### QUERY_VALVE (R141) -/

/-- One head action place as the statement lays it out (Table 9-19). -/
theorem Action.bytes_eq (a : Action) : a.bytes = PlaceFields a := by
  have length : (put8 a.state.code ++ putWord a.openAt ++ putWord a.closeAt ++ put8 a.contribs.length ++
      a.contribs.flatMap Contribution.bytes).length = 10 + 4 * a.contribs.length := by
    rw [List.length_append, length_flatMap_of_length (n := 4) fun _ _ => rfl]
    rfl
  have rest : 26 - (10 + 4 * a.contribs.length) = 4 * (4 - a.contribs.length) := by omega
  rw [Action.bytes, padTo, length, rest, PlaceFields]
  refine congr (congrArg HAppend.hAppend (congr (congrArg HAppend.hAppend ?_) (flatMap_congr fun k _ => ?_))) rfl
  · cases a.state <;> rfl
  · obtain ⟨_, _, _, _, phase⟩ := k
    cases phase <;> rfl

/-- With at most four contributions a place has 26 bytes (Table 9-19). -/
theorem length_placeFields (a : Action) (h : a.contribs.length ≤ 4) : (PlaceFields a).length = 26 := by
  unfold PlaceFields
  rw [List.length_append, List.length_append, length_flatMap_of_length (n := 4) fun _ _ => rfl, List.length_replicate]
  change 10 + 4 * a.contribs.length + 4 * (4 - a.contribs.length) = 26
  omega

/-- The head places of a queue, four of them (Table 9-18). -/
theorem length_headPlaces (q : List Action) (h : ∀ a ∈ q, a.contribs.length ≤ 4) :
    ((q.take 4).flatMap PlaceFields).length = 26 * min 4 q.length := by
  rw [length_flatMap_of_length fun a ha => length_placeFields a (h a (List.mem_of_mem_take ha)), List.length_take]

/-- The valve's fields as the statement lays them out (Table 9-18). -/
theorem State.valveFields_eq (s : State) (v : Fin 16) (h : ∀ a ∈ s.queue v, a.contribs.length ≤ 4) :
    s.valveFields v = ValveFields s v := by
  have places : padTo 104 (((s.queue v).take 4).flatMap Action.bytes) =
      ((s.queue v).take 4).flatMap PlaceFields ++ List.replicate (26 * (4 - (s.queue v).length)) 0 := by
    rw [funext Action.bytes_eq, padTo, length_headPlaces _ h]
    congr 2
    omega
  unfold State.valveFields ValveFields
  dsimp only
  rw [places]
  generalize s.valve v = x
  obtain ⟨⟨mode⟩, state⟩ := x
  simp only [List.append_assoc]
  cases state with
  | test phase d => cases phase <;> cases mode <;> rfl
  | _ => cases mode <;> rfl

/-- With at most four contributions to an action the fields have one length (Table 9-18). -/
theorem length_valveFields (s : State) (v : Fin 16) (h : ∀ a ∈ s.queue v, a.contribs.length ≤ 4) :
    (ValveFields s v).length = 122 := by
  rw [← s.valveFields_eq v h]
  have places : (padTo 104 (((s.queue v).take 4).flatMap Action.bytes)).length = 104 := by
    rw [funext Action.bytes_eq, padTo, List.length_append, List.length_replicate, length_headPlaces _ h]
    omega
  simp [State.valveFields, places, put8, put16, put32, putHalf, putWord]

/-- Settles O44: a query looks its record or valve up and sends its fields. -/
theorem queriesAnswerAndChangeNothing : Obligations.QueriesAnswerAndChangeNothing := by
  have item : ∀ (s : State) (req : Byte) (p : List Byte) (a : Answer), s.linkReady → p.length = 2 →
      runQueryItem p s = a → exec (.queryItem req p) s = .next (a.state.withReply 0xA2 req a.body a.after) :=
    fun s req p a hready hsize h => by
      have answered := exec_known (.queryItem req p) .queryItem req p s rfl hsize hready
      rwa [handRequest, h] at answered
  have valve : ∀ (s : State) (req : Byte) (p : List Byte) (a : Answer), s.linkReady → p.length = 1 →
      runQueryValve p s = a → exec (.queryValve req p) s = .next (a.state.withReply 0xA8 req a.body a.after) :=
    fun s req p a hready hsize h => by
      have answered := exec_known (.queryValve req p) .queryValve req p s rfl hsize hready
      rwa [handRequest, h] at answered
  refine ⟨fun s req hready => item s req _ (s.refuse .badValue) hready rfl rfl, fun s req tag hready known => ?_,
    fun s req v hready few => ?_, fun s req n hready high => ?_, length_itemFields, length_valveFields⟩
  · have number : num16 (putHalf tag) 0 = tag.toNat := congrArg BitVec.toNat (half_putHalf tag)
    have nonzero : ¬ num16 (putHalf tag) 0 = 0 := by
      rw [number, toNat_eq_zero_iff]
      exact known
    refine ⟨fun none => item s req _ (s.refuse .unknownItem) hready rfl ?_, fun before behind r split other hr few =>
      item s req _ (s.answer (ItemFields r (before.length + 1))) hready rfl ?_⟩
    · rw [runQueryItem, if_neg nonzero, number, none]
    · obtain ⟨found, index⟩ := s.record?_first tag.toNat before behind r split other hr
      rw [runQueryItem, if_neg nonzero, number, found]
      dsimp only
      rw [index, ItemRecord.queryFields_eq]
  · refine valve s req _ (s.answer (ValveFields s v)) hready rfl ?_
    have named : valveOf? (num8 (put8 v.val) 0) = some v := valveOf?_put8 v []
    rw [runQueryValve, named, ← s.valveFields_eq v few]
  · refine valve s req _ (s.refuse .badValue) hready rfl ?_
    have none : valveOf? (num8 [n] 0) = none := valveOf?_none _ high
    rw [runQueryValve, none]

end Sys2Proof.Machine
end

section
/-! PROOFS. CANCEL (R84 to R89, R108, R109). -/

namespace Sys2Proof.Machine

/-! ### An action without the contributions of a tag (R91, R108) -/

/-- What is left of an action is in its state and holds its contributions of other tags. -/
theorem leftWithout_some {a b : Action} {tag : Nat} (h : leftWithout tag a = some b) :
    b.state = a.state ∧ b.contribs = a.contribs.filter (fun k => k.tag != tag) := by
  unfold leftWithout at h
  dsimp only at h
  split at h
  · rename_i all
    cases h
    exact ⟨rfl, (List.filter_eq_self.mpr (List.length_filter_eq_length_iff.mp all)).symm⟩
  split at h
  · cases h
  split at h
  · cases h
    exact ⟨rfl, rfl⟩
  · cases h
    exact ⟨rfl, rfl⟩

/-- A contribution of another tag keeps its action. -/
theorem leftWithout_keeps {a : Action} {tag : Nat} {k : Contribution} (hk : k ∈ a.contribs) (other : k.tag ≠ tag) :
    ∃ b, leftWithout tag a = some b ∧ k ∈ b.contribs := by
  have stays : k ∈ a.contribs.filter (fun k => k.tag != tag) := List.mem_filter.mpr ⟨hk, by simpa using other⟩
  cases left : leftWithout tag a with
  | some b =>
    obtain ⟨_, contribs⟩ := leftWithout_some left
    exact ⟨b, rfl, contribs ▸ stays⟩
  | none =>
    unfold leftWithout at left
    dsimp only at left
    split at left
    · cases left
    rw [if_neg (List.ne_nil_of_mem stays)] at left
    split at left <;> cases left

/-- An action without contributions of the tag is untouched. -/
theorem leftWithout_untouched {a : Action} {tag : Nat} (h : a.ofTag tag = []) : leftWithout tag a = some a := by
  have all : a.contribs.filter (fun k => k.tag != tag) = a.contribs := List.filter_eq_self.mpr fun k hk => by
    have := List.filter_eq_nil_iff.mp h k hk
    simpa using this
  unfold leftWithout
  dsimp only
  rw [if_pos (by rw [all])]

/-! ### A queue after a CANCEL (R109) -/

/-- What a CANCEL makes of one action. -/
def cancelled (tag : Nat) (a : Action) : Option Action := if a.state = .queued then leftWithout tag a else some a

/-- The queue after a CANCEL in the words of the statement. -/
theorem cancelInQueue_eq (tag : Nat) (q : List Action) : cancelInQueue tag q = q.filterMap (cancelled tag) := by
  unfold cancelInQueue
  congr 1
  funext a
  unfold cancelled
  cases h : a.state with
  | queued => exact Action.withoutTag_eq a tag
  | opened => rfl

/-- An action keeps its state through a CANCEL. -/
theorem cancelled_state {a b : Action} {tag : Nat} (h : cancelled tag a = some b) : b.state = a.state := by
  unfold cancelled at h
  split at h
  · exact (leftWithout_some h).1
  · cases h
    rfl

/-- No QUEUED action keeps a contribution of the tag. -/
theorem cancelled_queued {a b : Action} {tag : Nat} (h : cancelled tag a = some b) (hb : b.state = .queued) :
    b.ofTag tag = [] := by
  have queued : a.state = .queued := (cancelled_state h).symm.trans hb
  rw [cancelled, if_pos queued] at h
  obtain ⟨_, contribs⟩ := leftWithout_some h
  rw [Action.ofTag, contribs, List.filter_filter, List.filter_eq_nil_iff]
  simp

/-- The OPEN actions stay as they are. -/
theorem filter_opened_cancelled (tag : Nat) (q : List Action) :
    (q.filterMap (cancelled tag)).filter (fun a => a.state == .opened) = q.filter (fun a => a.state == .opened) := by
  rw [List.filter_filterMap, ← List.filterMap_eq_filter]
  congr 1
  funext a
  cases h : a.state with
  | opened => simp [cancelled, h, Option.guard]
  | queued =>
    have none : ∀ b, cancelled tag a = some b → (b.state == .opened) = false := fun b hb => by
      rw [cancelled_state hb, h]
      rfl
    simp only [Option.guard, h]
    cases hc : cancelled tag a with
    | none => rfl
    | some b => simp [Option.filter, none b hc]

/-- A contribution of another tag keeps an action in the same state (R108). -/
theorem cancelled_keeps {a : Action} {tag : Nat} {k : Contribution} (hk : k ∈ a.contribs) (other : k.tag ≠ tag) :
    ∃ b, cancelled tag a = some b ∧ k ∈ b.contribs ∧ b.state = a.state := by
  unfold cancelled
  split
  · obtain ⟨b, left, kept⟩ := leftWithout_keeps hk other
    exact ⟨b, left, kept, (leftWithout_some left).1⟩
  · exact ⟨a, rfl, hk, rfl⟩

/-- An action without contributions of the tag stays as it is. -/
theorem cancelled_untouched {a : Action} {tag : Nat} (h : a.ofTag tag = []) : cancelled tag a = some a := by
  unfold cancelled
  split
  · exact leftWithout_untouched h
  · rfl

/-! ### The part after a CANCEL -/

/-- A CANCEL writes queues and outcomes, and nothing else (R109). -/
theorem State.cancelRemoval_eq (s : State) (tag : Nat) : s.cancelRemoval tag =
    { s with
      table := s.table.withOutcomes (served .cancelled (allValves.flatMap (fun v => queuedOfTag tag (s.queue v)))),
      sched := { s.sched with queues := (s.cancelRemoval tag).sched.queues } } := by
  have written : (s.cancelRemoval tag).table =
      s.table.withOutcomes (served .cancelled (allValves.flatMap (fun v => queuedOfTag tag (s.queue v)))) :=
    State.table_foldl_outcomes (op := State.cancelOnValve tag) (o := .cancelled)
      (given := fun s v => queuedOfTag tag (s.queue v))
      (fun t v => by rw [State.cancelOnValve, State.table_writeOutcomes_eq, State.table_putQueue])
      (fun t v w h => by rw [State.cancelOnValve, State.queue_writeOutcomes, State.queue_putQueue, if_neg h])
      allValves s nodup_allValves
  obtain ⟨t, qs, frame⟩ : ∃ t qs, s.cancelRemoval tag = { s with table := t, sched := { s.sched with queues := qs } } := by
    refine foldl_keeps (f := State.cancelOnValve tag) (P := fun u : State => ∃ t qs, u =
      { s with table := t, sched := { s.sched with queues := qs } }) ?_ allValves s ⟨_, _, rfl⟩
    rintro u v ⟨t, qs, h⟩
    exact ⟨_, _, by rw [State.cancelOnValve, State.writeOutcomes_eq_withOutcomes, State.putQueue, h]⟩
  rw [← written, frame]

/-- The numbers of the reply count the lists of the statement (R89). -/
theorem State.cancel_counts (s : State) (tag : Nat) :
    s.cancelCount tag = (allValves.flatMap (fun v => queuedOfTag tag (s.queue v))).length ∧
    s.runningCount tag = (allValves.flatMap (fun v => openOfTag tag (s.queue v))).length := by
  rw [List.length_flatMap, List.length_flatMap]
  exact ⟨rfl, rfl⟩

/-- A withdrawal with its reply (R89). -/
theorem State.withdraw_eq (s : State) (tag : Nat) : s.withdraw tag = ⟨s.cancelRemoval tag,
    [0] ++ put8 (allValves.flatMap (fun v => queuedOfTag tag (s.queue v))).length ++
      put8 (allValves.flatMap (fun v => openOfTag tag (s.queue v))).length ++ put8 (s.cancelRemoval tag).slotsInUse,
    .nothing⟩ := by
  obtain ⟨cancels, runs⟩ := s.cancel_counts tag
  rw [← cancels, ← runs]
  unfold State.withdraw
  generalize s.cancelRemoval tag = u
  rfl

/-- A record that is decided is withdrawn from (R86, R87). -/
theorem runCancel_decided (p : List Byte) (s : State) (r : ItemRecord) (armed : s.ctrl.line = .armed)
    (hr : s.record? (num16 p 0) = some r) (decided : r.isDecided = true) : runCancel p s = s.withdraw r.tag := by
  rw [runCancel, if_neg (not_not_intro armed), hr]
  unfold ItemRecord.isDecided at decided
  cases hp : r.progress with
  | entering => rw [hp] at decided; cases decided
  | awaiting c => rw [hp] at decided; cases decided
  | decided c d ts => simp only [hp]
  | defaulted c ts => simp only [hp]

/-- Settles O43: line, record and progress are looked at in this order, and a decided record is withdrawn from. -/
theorem cancelWithdrawsWhatHasNotBegun : Obligations.CancelWithdrawsWhatHasNotBegun := by
  intro s req tag hready send refused
  have answer : ∀ a : Answer, runCancel (putHalf tag) s = a →
      send = .next (a.state.withReply 0xA1 req a.body a.after) := fun a h => by
    have answered := exec_known (.cancel req (putHalf tag)) .cancel req (putHalf tag) s rfl rfl hready
    rwa [handRequest, h] at answered
  have number : num16 (putHalf tag) 0 = tag.toNat := congrArg BitVec.toNat (half_putHalf tag)
  refine ⟨fun line => answer (s.refuseCancel .state) ?_, fun armed => ⟨fun none =>
    answer (s.refuseCancel .unknownItem) ?_, fun r hr => ⟨fun entering => answer (s.refuseCancel .state) ?_,
      fun c awaiting => ?_, fun decided => ?_⟩⟩⟩
  · rw [runCancel, if_pos line]
  · rw [runCancel, if_neg (not_not_intro armed), number, none]
  · rw [runCancel, if_neg (not_not_intro armed), number, hr]
    simp only [entering]
  · refine (answer ⟨s.decide r.tag c .cancel [], State.cancelBody (s.decide r.tag c .cancel []) .ok 0 0, .nothing⟩ ?_).trans
      ?_
    · rw [runCancel, if_neg (not_not_intro armed), number, hr]
      simp only [awaiting]
    · rw [State.tag_of_record? hr]
      rfl
  · intro withdrawn running
    refine ⟨s.cancelRemoval tag.toNat, ?_, s.cancelRemoval_eq tag.toNat, fun v => ?_, fun v => ?_⟩
    · have taken : runCancel (putHalf tag) s = s.withdraw tag.toNat := by
        rw [runCancel_decided _ s r armed (by rw [number, hr]) decided, State.tag_of_record? hr]
      have answered := answer _ (taken.trans (s.withdraw_eq tag.toNat))
      dsimp only at answered
      exact answered
    · rw [State.queue_cancelRemoval, cancelInQueue_eq]
      rfl
    · rw [State.queue_cancelRemoval, cancelInQueue_eq]
      refine ⟨fun a ha queued => ?_, filter_opened_cancelled tag.toNat (s.queue v), fun a ha untouched => ?_,
        fun a ha k hk other => ?_⟩
      · obtain ⟨b, _, kept⟩ := List.mem_filterMap.mp ha
        exact cancelled_queued kept queued
      · exact List.mem_filterMap.mpr ⟨a, ha, cancelled_untouched untouched⟩
      · obtain ⟨b, kept, mem, state⟩ := cancelled_keeps hk other
        exact ⟨b, List.mem_filterMap.mpr ⟨a, ha, kept⟩, mem, state⟩

end Sys2Proof.Machine
end

section
/-! PROOFS. Horizon, exit and retirement (R56, R57, R59 to R62, R69, R110). -/

namespace Sys2Proof.Machine

/-! ### Records found by tag -/

/-- A record is found exactly when its tag is in the table. -/
theorem State.record?_isSome_iff (s : State) (tag : Nat) :
    (s.record? tag).isSome = true ↔ tag ∈ s.table.records.map ItemRecord.tag := by
  rw [State.record?, List.find?_isSome, List.mem_map]
  simp only [beq_iff_eq]

/-- A record becoming DEFAULTED keeps the tags in order (R60). -/
theorem State.tags_setDefaulted (s : State) (tag : Nat) (c : Closing) (ps : List Placed) (o : TargetOutcome) :
    (s.setDefaulted tag c ps o).table.records.map ItemRecord.tag = s.table.records.map ItemRecord.tag := by
  simp only [State.setDefaulted, State.updateRecord, State.records_putRecords, List.map_map]
  congr 1
  funext r
  simp only [Function.comp]
  split <;> rfl

/-- So does a lane default (R60, R61). -/
theorem State.tags_applyDefault (s : State) (r : ItemRecord) (c : Closing) :
    (s.applyDefault r c).table.records.map ItemRecord.tag = s.table.records.map ItemRecord.tag := by
  have failed : ∀ tag ps full, (s.defaultFailed tag c ps full).table.records.map ItemRecord.tag =
      s.table.records.map ItemRecord.tag := fun tag ps full => by
    unfold State.defaultFailed
    dsimp only
    split <;> simp [State.tags_setDefaulted]
  unfold State.applyDefault
  dsimp only
  split
  · rw [State.table_offer, State.tags_setDefaulted]
  split
  · split
    · rw [State.table_offer, State.tags_setDefaulted]
    · exact failed _ _ _
    · exact failed _ _ _
  · exact failed _ _ _

/-! ### Outcomes, record by record (R63) -/

/-- A record with the outcomes that `f` gives its targets. -/
def ItemRecord.withOutcomes (f : Nat → Nat → Option TargetOutcome) (r : ItemRecord) : ItemRecord :=
  { r with progress := r.progress.mapTargets (fun ts =>
      ts.mapIdx (fun i x => { x with outcome := (f r.tag i).getD x.outcome })) }

/-- The table with outcomes is its records with outcomes. -/
theorem Table.records_withOutcomes (t : Table) (f : Nat → Nat → Option TargetOutcome) :
    (t.withOutcomes f).records = t.records.map (ItemRecord.withOutcomes f) := rfl

/-- A record that takes no outcome stays as it is. -/
theorem ItemRecord.withOutcomes_none {f : Nat → Nat → Option TargetOutcome} (r : ItemRecord) (h : ∀ i, f r.tag i = none) :
    r.withOutcomes f = r := by
  obtain ⟨_, _, _, _, _, _, _, progress⟩ := r
  dsimp only at h
  have targets : ∀ ts : List RecordTarget,
      ts.mapIdx (fun _ x => { x with outcome := (none : Option TargetOutcome).getD x.outcome }) = ts := fun ts => by
    simp [List.mapIdx_eq_zipIdx_map, Option.getD]
  cases progress <;> simp only [ItemRecord.withOutcomes, Progress.mapTargets, h, targets]

/-- The target outcomes of a record after outcomes. -/
theorem ItemRecord.targets_withOutcomes (f : Nat → Nat → Option TargetOutcome) (r : ItemRecord) :
    (r.withOutcomes f).progress.targets =
      r.progress.targets.mapIdx (fun i x => { x with outcome := (f r.tag i).getD x.outcome }) := by
  obtain ⟨_, _, _, _, _, _, _, progress⟩ := r
  cases progress <;> rfl

/-- Outcomes leave the decision of a record (R69). -/
theorem ItemRecord.decision_withOutcomes (f : Nat → Nat → Option TargetOutcome) (r : ItemRecord) :
    (r.withOutcomes f).progress.finalDecision = r.progress.finalDecision := by
  obtain ⟨_, _, _, _, _, _, _, progress⟩ := r
  cases progress with
  | decided c d ts => cases d <;> rfl
  | _ => rfl

/-! ### Retirement (R62, R69, R110) -/

/-- The contributions of a tag in all queues. -/
def State.allOfTag (s : State) (tag : Nat) : List Contribution :=
  allValves.flatMap (fun v => (s.queue v).flatMap (fun a => a.ofTag tag))

/-- They are the contributions of all queues that carry the tag. -/
theorem State.allOfTag_eq (s : State) (tag : Nat) : s.allOfTag tag =
    (allValves.flatMap (fun v => (s.queue v).flatMap Action.contribs)).filter (fun k => k.tag == tag) := by
  simp only [State.allOfTag, Action.ofTag, List.filter_flatMap]

/-- A target of the tag is named by them exactly when it is named at all. -/
theorem names_allOfTag (s : State) (tag index : Nat) : names (s.allOfTag tag) tag index =
    names (allValves.flatMap (fun v => (s.queue v).flatMap Action.contribs)) tag index := by
  rw [State.allOfTag_eq, names, names, List.any_filter]
  congr 1
  funext k
  cases k.tag == tag <;> rfl

/-- A target of another tag is not named by them. -/
theorem names_allOfTag_other (s : State) {tag other : Nat} (h : other ≠ tag) (index : Nat) :
    names (s.allOfTag tag) other index = false := by
  rw [State.allOfTag_eq, names, List.any_eq_false]
  intro k hk
  have own : k.tag = tag := by simpa using (List.mem_filter.mp hk).2
  rw [own]
  simp [h.symm]

/-- A retirement writes MISSED into the targets of its tag (R110). -/
theorem State.table_retireRemoval (s : State) (tag : Nat) :
    (s.retireRemoval tag).table = s.table.withOutcomes (served .missed (s.allOfTag tag)) := by
  have written := State.table_foldl_outcomes (op := State.retireOnValve tag) (o := .missed)
    (given := fun s v => (s.queue v).flatMap (fun a => a.ofTag tag))
    (fun t v => by rw [State.retireOnValve, State.table_writeOutcomes_eq, State.table_putQueue])
    (fun t v w h => by rw [State.retireOnValve, State.queue_writeOutcomes, State.queue_putQueue, if_neg h])
    allValves s nodup_allValves
  rw [State.retireRemoval, State.allOfTag]
  exact written

/-- A retirement writes queues and outcomes, up to the removal of its record (R110). -/
theorem State.retireRemoval_eq (s : State) (tag : Nat) : s.retireRemoval tag =
    { s with
      table := s.table.withOutcomes (served .missed (s.allOfTag tag)),
      sched := { s.sched with queues := (s.retireRemoval tag).sched.queues } } := by
  obtain ⟨t, qs, frame⟩ : ∃ t qs, s.retireRemoval tag = { s with table := t, sched := { s.sched with queues := qs } } := by
    refine foldl_keeps (f := State.retireOnValve tag) (P := fun u : State => ∃ t qs, u =
      { s with table := t, sched := { s.sched with queues := qs } }) ?_ allValves s ⟨_, _, rfl⟩
    rintro u v ⟨t, qs, h⟩
    exact ⟨_, _, by rw [State.retireOnValve, State.writeOutcomes_eq_withOutcomes, State.putQueue, h]⟩
  rw [← s.table_retireRemoval tag, frame]

/-- The queue of a valve after a retirement in the words of the statement (R110). -/
theorem retireInQueue_eq (tag : Nat) (q : List Action) : retireInQueue tag q = q.filterMap (leftWithout tag) := by
  unfold retireInQueue
  congr 1
  funext a
  exact Action.withoutTag_eq a tag

/-- The record of the tag after its outcomes. -/
theorem State.record?_retireRemoval (s : State) (tag : Nat) :
    (s.retireRemoval tag).record? tag =
      (s.record? tag).map (ItemRecord.withOutcomes (served .missed (s.allOfTag tag))) := by
  rw [State.record?, State.table_retireRemoval, Table.records_withOutcomes, List.find?_map]
  rfl

/-- Without the record of the tag the records are those of the other tags, as they were. -/
theorem State.records_retired (s : State) (tag : Nat) :
    ((s.retireRemoval tag).removeRecord tag).table.records = s.table.records.filter (fun r => r.tag != tag) := by
  rw [State.removeRecord, State.records_putRecords, State.table_retireRemoval, Table.records_withOutcomes,
    List.filter_map]
  have others : s.table.records.filter ((fun r => r.tag != tag) ∘ ItemRecord.withOutcomes (served .missed (s.allOfTag tag)))
      = s.table.records.filter (fun r => r.tag != tag) := rfl
  rw [others]
  refine (List.map_congr_left fun r hr => ?_).trans (List.map_id _)
  have other : r.tag ≠ tag := by simpa using (List.mem_filter.mp hr).2
  exact r.withOutcomes_none fun i => by rw [served, names_allOfTag_other s other, if_neg (by decide)]

/-- Removing a record from a part in which only records and queues have changed. -/
theorem State.removeRecord_frame {s u : State} {tag : Nat} {rs : List ItemRecord}
    (h : ∃ old qs, u = { s with table := { s.table with records := old }, sched := { s.sched with queues := qs } })
    (hr : (u.removeRecord tag).table.records = rs) : u.removeRecord tag =
      { s with table := { s.table with records := rs },
               sched := { s.sched with queues := (u.removeRecord tag).sched.queues } } := by
  obtain ⟨old, qs, rfl⟩ := h
  subst hr
  rfl

/-- A retirement in the words of the statement (R62, R69, R110). -/
theorem State.retire_retired (s : State) (tag : Nat) (r : ItemRecord) (hr : s.record? tag = some r) :
    Retired s tag (s.retire tag) := by
  unfold Retired
  intro queued
  let f := served .missed (s.allOfTag tag)
  let w := (s.retireRemoval tag).removeRecord tag
  have retired : s.retire tag = w.offer (r.withOutcomes f).retiredNotice := by
    unfold State.retire
    dsimp only
    rw [s.record?_retireRemoval tag, hr]
    rfl
  have rtag : r.tag = tag := State.tag_of_record? hr
  have notice : (r.withOutcomes f).retiredNotice = .itemRetired tag r.lane r.progress.finalDecision r.estimated
      (r.progress.targets.mapIdx (fun i x => (x.valve, if names queued tag i = true then .missed else x.outcome))) := by
    have outcome : ∀ i (x : RecordTarget), (f tag i).getD x.outcome =
        if names queued tag i = true then .missed else x.outcome := fun i x => by
      simp only [f, served, names_allOfTag, queued]
      split <;> rfl
    rw [ItemRecord.retiredNotice, ItemRecord.decision_withOutcomes, ItemRecord.targets_withOutcomes]
    simp only [List.mapIdx_eq_zipIdx_map, List.map_map, Function.comp_def, rtag, outcome]
    exact congrArg (fun t => Notice.itemRetired t _ _ _ _) rtag
  refine ⟨r, w, hr, ?_, fun v => ?_, ?_⟩
  · exact State.removeRecord_frame ⟨_, _, s.retireRemoval_eq tag⟩ (s.records_retired tag)
  · rw [← retireInQueue_eq, ← State.queue_retireRemoval]
    exact State.queue_of_sched (State.sched_removeRecord _ _) v
  · rw [retired, notice]
    obtain ⟨_, _, _, _, _, _, _, progress⟩ := r
    cases progress with
    | decided c d ts => cases d <;> rfl
    | _ => rfl

/-! ### The check of a record (R56, R57, R59) -/

section check

variable {s : State} {p : Pos} {r : ItemRecord}

/-- An AWAITING record at the check. -/
theorem State.checkRecord_awaiting (hr : s.record? r.tag = some r) (c : Closing) (h : r.progress = .awaiting c) :
    s.checkRecord p r.tag = if reached p r.horizon || reached p c.exitAt then
      if reached p c.exitAt then (s.applyDefault r c).retire r.tag else s.applyDefault r c else s := by
  rw [State.checkRecord, hr]
  simp only [h]

/-- A DECIDED or DEFAULTED record at the check. -/
theorem State.checkRecord_decided (hr : s.record? r.tag = some r) (c : Closing)
    (h : (∃ d os, r.progress = .decided c d os) ∨ ∃ os, r.progress = .defaulted c os) :
    s.checkRecord p r.tag = if reached p c.exitAt then s.retire r.tag else s := by
  rw [State.checkRecord, hr]
  rcases h with ⟨d, os, h⟩ | ⟨os, h⟩
  · simp only [h]
  · simp only [h]

end check

/-- A retirement told and nothing else (R62, R69). -/
theorem bears_retire (s : State) (tag : Nat) {fs : List FaultFlag} : Bears s (s.retire tag) fs :=
  .of (tells_retire s tag) (.of_blocks (by simp) (by simp) (by simp) (by simp) (by simp) (by simp))

/-- What a retirement leaves in table and queues: nothing of its tag, and every other record (R62, R110). -/
theorem State.retire_leaves (s : State) (tag : Nat) (r : ItemRecord) (hr : s.record? tag = some r) :
    (∀ x ∈ (s.retire tag).table.records, x.tag ≠ tag) ∧
    (∀ v : Fin 16, ∀ a ∈ (s.retire tag).queue v, ∀ k ∈ a.contribs, k.tag ≠ tag) ∧
    ∀ x ∈ s.table.records, x.tag ≠ tag → x ∈ (s.retire tag).table.records := by
  obtain ⟨_, w, _, frame, _, retired⟩ := s.retire_retired tag r hr
  have records : (s.retire tag).table.records = s.table.records.filter (fun x => x.tag != tag) := by
    rw [retired, State.table_offer, frame]
  rw [records]
  refine ⟨fun x hx => by simpa using (List.mem_filter.mp hx).2, fun v a ha => ?_,
    fun x hx other => List.mem_filter.mpr ⟨hx, by simpa using other⟩⟩
  rw [State.queue_retire] at ha
  exact (retireInQueue_within tag _).2 a ha

/-! ### Updates handed (R12) -/

/-- An update is handed in one of the six orders (R12). -/
theorem State.handUpdate_mem (s : State) (k : UpdateKind) : ∃ o : List Nat, s.handUpdate k ∈
    UpdateOrders (s.belt.update k) { s with order := o } := by
  obtain ⟨o, e⟩ := s.choose_snd 6
  refine ⟨o, ?_⟩
  unfold State.handUpdate UpdateOrders
  dsimp only
  rw [e]
  split <;> simp only [List.mem_cons, true_or, or_true]

/-- Without a change nothing of the motion is handed (R17). -/
theorem State.handMotion_same (s : State) (old : Motion) (h : s.belt.motion = old) : s.handMotion old = s := if_pos h

/-- A generated count hands its update behind a motion change, if there is one (R12, R17). -/
theorem State.countGenerated_hands (s : State) (b : Belt) (k : UpdateKind) (hb : b.motion = s.belt.motion) :
    ∃ w : State, (s.putBelt b).countGenerated k = w.handUpdate k ∧
      (w.belt.motion = s.belt.motion → w = { s with belt := w.belt }) := by
  refine ⟨_, rfl, fun still => ?_⟩
  rw [(State.handMotion_frame _ _).1] at still ⊢
  have old : (s.putBelt b).belt.motion = s.belt.motion := hb
  rw [State.handMotion_same _ _ (still.trans old.symm)]
  rfl

/-- Settles O45: the check of a record by its progress, and the updates behind what changes with them. -/
theorem horizonDefaultsAndExitRetires : Obligations.HorizonDefaultsAndExitRetires := by
  refine ⟨fun s p r hr => ⟨fun entering => ?_, fun c awaiting => ⟨fun before within => ?_, fun due =>
      ⟨s.applyDefault r c, s.applyDefault_defaulted r c, fun within => ?_, fun out => ?_⟩⟩,
      fun c decided => ⟨fun within => ?_, fun out => ?_⟩⟩,
    fun s u => ⟨fun forward => if_pos forward, fun other => if_neg other⟩, State.handUpdate_mem, fun s d => ?_,
    fun s f hs hf => ?_, fun s f hs hf => ?_⟩
  · rw [State.checkRecord, hr]
    simp only [entering]
  · rw [State.checkRecord_awaiting hr c awaiting, before, within]
    rfl
  · have horizon : reached p r.horizon = true := due.resolve_right (by rw [within]; decide)
    rw [State.checkRecord_awaiting hr c awaiting, horizon, within, Bool.true_or, if_pos rfl, if_neg (by decide)]
  · have present : ((s.applyDefault r c).record? r.tag).isSome = true := by
      rw [State.record?_isSome_iff, State.tags_applyDefault, ← State.record?_isSome_iff, hr]
      rfl
    obtain ⟨x, hx⟩ := Option.isSome_iff_exists.mp present
    have retires : s.checkRecord p r.tag = (s.applyDefault r c).retire r.tag := by
      rw [State.checkRecord_awaiting hr c awaiting, out, Bool.or_true, if_pos rfl, if_pos rfl]
    rw [retires]
    exact State.retire_retired _ r.tag x hx
  · rw [State.checkRecord_decided hr c decided, within]
    rfl
  · have retires : s.checkRecord p r.tag = s.retire r.tag := by
      rw [State.checkRecord_decided hr c decided, out, if_pos rfl]
    obtain ⟨records, queues, others⟩ := s.retire_leaves r.tag r hr
    have bears := bears_retire s r.tag (fs := [])
    rw [retires]
    exact ⟨s.retire_retired r.tag r hr, records, queues, others, by simp, by simp, by simp, bears.line, bears.framed⟩
  · refine ⟨_, rfl, by simp, fun still kind => ?_⟩
    rw [(State.handMotion_frame _ _).1] at still kind ⊢
    have unchanged : (s.putBelt (s.belt.encoderCount d s.now)).handSourceFrom s.belt.source.kind =
        s.putBelt (s.belt.encoderCount d s.now) := by
      rw [State.handSourceFrom_frame _ _ |>.1] at kind
      exact if_pos kind
    rw [unchanged] at still ⊢
    rw [State.handMotion_same _ _ still]
    rfl
  · obtain ⟨w, handed, still⟩ := s.countGenerated_hands s.belt.generated .timed rfl
    have stepped : s.stepTimed = w.handUpdate .timed := by
      rw [← handed, State.stepTimed, hs, hf]
    exact ⟨w, congrArg Host.Outcome.next stepped, still⟩
  · obtain ⟨w, handed, still⟩ := s.countGenerated_hands s.belt.generated .estimated rfl
    have stepped : s.stepEstimated = w.handUpdate .estimated := by
      rw [← handed, State.stepEstimated, hs, hf]
    exact ⟨w, congrArg Host.Outcome.next stepped, still⟩

end Sys2Proof.Machine
end

section
/-! PROOFS. Joining and admission (R90 to R100, R102). -/

namespace Sys2Proof.Machine

/-! ### Placement by a point (R91, R93) -/

/-- An action is placed before the first whose open point comes after its own (R93). -/
theorem insertAction_placed (a : Action) : ∀ q, PlacedIn Action.openAt a q (insertAction a q)
  | [] => ⟨[], [], rfl, rfl, by simp, by simp⟩
  | b :: bs => by
    unfold insertAction
    split
    · rename_i h
      exact ⟨[], b :: bs, rfl, rfl, by simp, by simpa using h⟩
    · rename_i h
      obtain ⟨front, back, hb, ha, hf, hr⟩ := insertAction_placed a bs
      refine ⟨b :: front, back, by rw [hb, List.cons_append], by rw [ha, List.cons_append], ?_, hr⟩
      intro d hd
      rcases List.mem_cons.mp hd with rfl | hd
      · simpa using h
      · exact hf d hd

/-- Contributions gathered one after the other are placed one by one (R91). -/
theorem placedOneByOne_foldl : ∀ (xs before : List Contribution),
    PlacedOneByOne Contribution.openAt xs before (xs.foldl (fun cs c => insertContribution c cs) before)
  | [], _ => rfl
  | x :: xs, before => ⟨_, insertContribution_placed x before, placedOneByOne_foldl xs _⟩

/-- Of two points at most one comes after the other (section 0.6). -/
theorem comesAfter_asymm {p q : Pos} (h : comesAfter p q = true) : comesAfter q p = false := by
  unfold comesAfter at h ⊢
  have half : Config.halfRange = 2147483648 := rfl
  rw [half] at h ⊢
  simp only [Bool.and_eq_true, decide_eq_true_eq, BitVec.toNat_sub, Bool.and_eq_false_iff, decide_eq_false_iff_not] at h ⊢
  have hp := p.isLt
  have hq := q.isLt
  omega

/-- The order of neighbours (R91). -/
def NotAfter (d e : Contribution) : Prop := comesAfter d.openAt e.openAt = false

/-- Open order is that of the first two and of the rest. -/
theorem inOpenOrder_cons {d : Contribution} {ds : List Contribution} :
    InOpenOrder (d :: ds) ↔ (∀ e, ds.head? = some e → NotAfter d e) ∧ InOpenOrder ds := by
  constructor
  · intro h
    refine ⟨fun e he => h 0 d e rfl ?_, fun i x y hx hy => h (i + 1) x y hx hy⟩
    rwa [List.getElem?_cons_succ, ← List.head?_eq_getElem?]
  · rintro ⟨first, rest⟩ i x y hx hy
    cases i with
    | zero =>
      cases hx
      rw [List.getElem?_cons_succ, ← List.head?_eq_getElem?] at hy
      exact first y hy
    | succ i => exact rest i x y hx hy

/-- The first of the contributions is the one placed, or the first of the others. -/
theorem head?_insertContribution {c e : Contribution} {ds : List Contribution}
    (h : (insertContribution c ds).head? = some e) : e = c ∨ ds.head? = some e := by
  cases ds with
  | nil => exact .inl (Option.some.inj h).symm
  | cons d ds =>
    unfold insertContribution at h
    split at h
    · exact .inl (Option.some.inj h).symm
    · exact .inr h

/-- A contribution placed by its open point keeps the open order (R91). -/
theorem inOpenOrder_insertContribution (c : Contribution) : ∀ {cs : List Contribution}, InOpenOrder cs →
    InOpenOrder (insertContribution c cs)
  | [], h => inOpenOrder_cons.mpr ⟨nofun, h⟩
  | d :: ds, h => by
    unfold insertContribution
    split
    · rename_i later
      refine inOpenOrder_cons.mpr ⟨fun e he => ?_, h⟩
      cases he
      exact comesAfter_asymm later
    · rename_i notAfter
      obtain ⟨first, rest⟩ := inOpenOrder_cons.mp h
      refine inOpenOrder_cons.mpr ⟨fun e he => ?_, inOpenOrder_insertContribution c rest⟩
      rcases head?_insertContribution he with rfl | old
      · exact Bool.eq_false_iff.mpr notAfter
      · exact first e old

/-- So do several. -/
theorem inOpenOrder_foldl (xs : List Contribution) {cs : List Contribution} (h : InOpenOrder cs) :
    InOpenOrder (xs.foldl (fun cs c => insertContribution c cs) cs) :=
  foldl_keeps (P := InOpenOrder) (fun _ c hcs => inOpenOrder_insertContribution c hcs) xs cs h

/-! ### The group of a contribution (R95, R97, R99) -/

/-- A contribution as an action is gathered like the actions it touches. -/
theorem joinGroup_cons {gap : Nat} {k : Contribution} {q : List Action} {b : Action} {bs : List Action}
    (h : q.filter (touches gap k) = b :: bs) :
    joinGroup gap k q = (bs ++ [Action.ofContribution k]).foldl Action.merge b := by
  rw [joinGroup, h, List.foldl_append]
  rfl

/-- The contributions of a group are placed among those of its first action (R91, R95). -/
theorem contribs_foldl_merge_eq : ∀ (as : List Action) (a : Action), (as.foldl Action.merge a).contribs =
    (as.flatMap Action.contribs).foldl (fun cs c => insertContribution c cs) a.contribs
  | [], _ => rfl
  | b :: as, a => by
    rw [List.foldl_cons, contribs_foldl_merge_eq as, List.flatMap_cons, List.foldl_append]
    rfl

/-- The close point of a group is the greatest (R97). -/
theorem closeAt_foldl_merge : ∀ (as : List Action) (a : Action), (as.foldl Action.merge a).closeAt =
    greatestPoint ((a :: as).map Action.closeAt)
  | [], _ => rfl
  | b :: as, a => by
    rw [List.foldl_cons, closeAt_foldl_merge as]
    rfl

/-- A group with an OPEN action is OPEN (R97). -/
theorem state_foldl_merge : ∀ (as : List Action) (a : Action), (∃ b ∈ a :: as, b.state = .opened) →
    (as.foldl Action.merge a).state = .opened
  | [], a, h => by
    obtain ⟨b, hb, opened⟩ := h
    cases List.mem_singleton.mp hb
    exact opened
  | b :: as, a, h => by
    rw [List.foldl_cons]
    refine state_foldl_merge as _ ?_
    obtain ⟨x, hx, opened⟩ := h
    rcases List.mem_cons.mp hx with rfl | hx
    · exact ⟨_, List.mem_cons_self, if_pos (.inl opened)⟩
    rcases List.mem_cons.mp hx with rfl | hx
    · exact ⟨_, List.mem_cons_self, if_pos (.inr opened)⟩
    · exact ⟨x, List.mem_cons_of_mem _ hx, opened⟩

/-- A group of QUEUED actions is QUEUED at the least open point (R97). -/
theorem queued_foldl_merge : ∀ (as : List Action) (a : Action), (∀ b ∈ a :: as, b.state = .queued) →
    (as.foldl Action.merge a).state = .queued ∧
    (as.foldl Action.merge a).openAt = leastPoint ((a :: as).map Action.openAt)
  | [], a, h => ⟨h a List.mem_cons_self, rfl⟩
  | b :: as, a, h => by
    have ha : ¬ a.state = .opened := by rw [h a (by simp)]; decide
    have hb : ¬ b.state = .opened := by rw [h b (by simp)]; decide
    have state : (a.merge b).state = .queued := if_neg (not_or.mpr ⟨ha, hb⟩)
    have openAt : (a.merge b).openAt = earlierOf a.openAt b.openAt := (if_neg ha).trans (if_neg hb)
    obtain ⟨queued, least⟩ := queued_foldl_merge as (a.merge b) fun x hx => by
      rcases List.mem_cons.mp hx with rfl | hx
      · exact state
      · exact h x (by simp [hx])
    rw [List.foldl_cons]
    refine ⟨queued, least.trans ?_⟩
    rw [List.map_cons, openAt]
    rfl

/-- A group with an OPEN action stands at the open point of the first such (R97). -/
theorem openAt_foldl_merge : ∀ (as : List Action) (a b : Action),
    (a :: as).find? (fun x => x.state == .opened) = some b → (as.foldl Action.merge a).openAt = b.openAt
  | [], a, b, h => by
    rw [List.find?_singleton] at h
    split at h
    · cases h
      rfl
    · cases h
  | c :: as, a, b, h => by
    rw [List.foldl_cons]
    by_cases ha : a.state = .opened
    · have first : a = b := by
        rw [List.find?_cons_of_pos (by simp [ha])] at h
        exact Option.some.inj h
      have merged : (a.merge c).state = .opened := if_pos (.inl ha)
      rw [openAt_foldl_merge as (a.merge c) (a.merge c) (List.find?_cons_of_pos (by simp [merged])), ← first]
      exact if_pos ha
    rw [List.find?_cons_of_neg (by simp [ha])] at h
    by_cases hc : c.state = .opened
    · have first : c = b := by
        rw [List.find?_cons_of_pos (by simp [hc])] at h
        exact Option.some.inj h
      have merged : (a.merge c).state = .opened := if_pos (.inr hc)
      rw [openAt_foldl_merge as (a.merge c) (a.merge c) (List.find?_cons_of_pos (by simp [merged])), ← first]
      exact (if_neg ha).trans (if_pos hc)
    · have merged : ¬ (a.merge c).state = .opened := by
        have state : (a.merge c).state = .queued := if_neg (not_or.mpr ⟨ha, hc⟩)
        rw [state]
        decide
      rw [List.find?_cons_of_neg (by simp [hc])] at h
      exact openAt_foldl_merge as (a.merge c) b (by rw [List.find?_cons_of_neg (by simp [merged]), h])

/-- A contribution that touches no action starts one of its own (R99). -/
theorem joinGroup_nil {gap : Nat} {k : Contribution} {q : List Action} (h : q.filter (touches gap k) = []) :
    joinGroup gap k q = Action.ofContribution k := by
  rw [joinGroup, h]

/-- The OPEN actions of a group are those it gathered: the new contribution is QUEUED. -/
theorem find?_append_ofContribution {k : Contribution} {as : List Action} {b : Action}
    (h : as.find? (fun x => x.state == .opened) = some b) :
    (as ++ [Action.ofContribution k]).find? (fun x => x.state == .opened) = some b := by
  rw [List.find?_append, h]
  rfl

/-- The contributions of a group are placed among those of its first action (R91, R95). -/
theorem contribs_joinGroup_cons {gap : Nat} {k : Contribution} {q : List Action} {b : Action} {bs : List Action}
    (h : q.filter (touches gap k) = b :: bs) : (joinGroup gap k q).contribs =
      (bs.flatMap Action.contribs ++ [k]).foldl (fun cs c => insertContribution c cs) b.contribs := by
  rw [joinGroup_cons h, contribs_foldl_merge_eq, List.flatMap_append]
  rfl

/-- The group of a contribution and its place are as the statement says (R91 to R99). -/
theorem joins_insertAction (gap : Nat) (k : Contribution) (q : List Action) :
    Joins gap k q (insertAction (joinGroup gap k q) (q.filter (fun a => !touches gap k a))) := by
  unfold Joins
  refine ⟨joinGroup gap k q, insertAction_placed _ _, joinGroup_nil, contribs_joinGroup gap k q,
    fun b bs hit => ?_, ?_⟩
  · rw [contribs_joinGroup_cons hit]
    exact ⟨placedOneByOne_foldl _ _, inOpenOrder_foldl _⟩
  cases hit : q.filter (touches gap k) with
  | nil =>
    rw [joinGroup_nil hit]
    exact ⟨by simp, by simp, fun _ => ⟨rfl, rfl⟩, rfl⟩
  | cons b bs =>
    rw [joinGroup_cons hit]
    refine ⟨fun ⟨x, hx, opened⟩ => ?_, fun x found => ?_, fun queued => ?_, ?_⟩
    · refine state_foldl_merge _ b ⟨x, ?_, opened⟩
      rw [← List.cons_append]
      exact List.mem_append_left _ hx
    · exact openAt_foldl_merge _ b x (find?_append_ofContribution found)
    · have gathered := queued_foldl_merge (bs ++ [Action.ofContribution k]) b fun x hx => by
        rw [← List.cons_append] at hx
        rcases List.mem_append.mp hx with old | new
        · exact queued x old
        · rw [List.mem_singleton.mp new]
          rfl
      rw [← List.cons_append, List.map_append] at gathered
      exact gathered
    · rw [closeAt_foldl_merge, ← List.cons_append, List.map_append]
      rfl

end Sys2Proof.Machine
end

section
/-! PROOFS. Admission is all or nothing (R90 to R102). -/

namespace Sys2Proof.Machine

/-! ### One contribution (R95, R96) -/

/-- A group holds the contributions of the actions it gathers and the new one (R95). -/
theorem length_joinGroup (gap : Nat) (k : Contribution) (q : List Action) : (joinGroup gap k q).contribs.length =
    ((q.filter (touches gap k)).map (fun a => a.contribs.length)).sum + 1 := by
  rw [(contribs_joinGroup gap k q).length_eq, List.length_cons, List.length_flatMap]

/-- The two tests of a conflict are the two the joining makes (R96). -/
theorem conflicts_iff (gap : Nat) (k : Contribution) (q : List Action) : Conflicts gap k q ↔
    opensTooEarly k q = true ∨ 4 < (joinGroup gap k q).contribs.length := by
  rw [length_joinGroup, Conflicts, opensTooEarly, List.any_eq_true]
  simp only [Bool.and_eq_true, beq_iff_eq]

/-- A contribution joins unless it is in conflict (R96). -/
theorem joinOne_of_not_conflicts {gap : Nat} {k : Contribution} {q : List Action} (h : ¬ Conflicts gap k q) :
    joinOne gap k q = some (insertAction (joinGroup gap k q) (q.filter (fun a => !touches gap k a))) := by
  rw [conflicts_iff, not_or, Bool.not_eq_true, Nat.not_lt] at h
  exact (joinOne_eq gap k q _).mpr ⟨h.1, h.2, rfl⟩

/-- In conflict it does not join (R96). -/
theorem joinOne_of_conflicts {gap : Nat} {k : Contribution} {q : List Action} (h : Conflicts gap k q) :
    joinOne gap k q = none := by
  rw [Option.eq_none_iff_forall_ne_some]
  intro q' joined
  obtain ⟨early, few, _⟩ := (joinOne_eq gap k q q').mp joined
  rcases (conflicts_iff gap k q).mp h with late | many
  · rw [early] at late
    cases late
  · omega

/-- The actions gathered become one (R95). -/
theorem length_joined (gap : Nat) (k : Contribution) (q : List Action) :
    (insertAction (joinGroup gap k q) (q.filter (fun a => !touches gap k a))).length + (q.filter (touches gap k)).length =
      q.length + 1 := by
  have parts := length_filter_add_length_filter_not (touches gap k) q
  rw [(insertAction_perm _ _).length_eq, List.length_cons]
  omega

/-- Every contribution of the queue stays, and the new one is there (R95). -/
theorem mem_contribs_joinOne {gap : Nat} {k x : Contribution} {q q' : List Action} (h : joinOne gap k q = some q')
    (hx : x = k ∨ ∃ a ∈ q, x ∈ a.contribs) : ∃ b ∈ q', x ∈ b.contribs := by
  obtain ⟨_, _, rfl⟩ := (joinOne_eq gap k q q').mp h
  have member := fun b : Action => (insertAction_perm (joinGroup gap k q) (q.filter (fun a => !touches gap k a))).mem_iff (a := b)
  have gathered := fun y : Contribution => (contribs_joinGroup gap k q).mem_iff (a := y)
  rcases hx with rfl | ⟨a, ha, hx⟩
  · exact ⟨_, (member _).mpr List.mem_cons_self, (gathered _).mpr List.mem_cons_self⟩
  · cases touched : touches gap k a with
    | true =>
      refine ⟨_, (member _).mpr List.mem_cons_self, (gathered _).mpr (List.mem_cons_of_mem _ ?_)⟩
      exact List.mem_flatMap.mpr ⟨a, List.mem_filter.mpr ⟨ha, touched⟩, hx⟩
    | false =>
      exact ⟨a, (member _).mpr (List.mem_cons_of_mem _ (List.mem_filter.mpr ⟨ha, by simp [touched]⟩)), hx⟩

/-! ### Several contributions (R95, R98) -/

/-- The schedule with one queue changed. -/
def Schedule.withQueue (c : Schedule) (v : Fin 16) (q : List Action) : Schedule := { c with queues := c.queues.set v q }

/-- Its queues. -/
theorem Schedule.queues_withQueue (c : Schedule) (v w : Fin 16) (q : List Action) :
    (c.withQueue v q).queues[w] = if v = w then q else c.queues[w] := c.getElem_set_queues v w q

/-- Its slots: those of the new queue for those of the old one (R90). -/
theorem Schedule.slotsInUse_withQueue (c : Schedule) (v : Fin 16) (q : List Action) :
    (c.withQueue v q).slotsInUse + c.queues[v].length = c.slotsInUse + q.length := by
  have others : (allValves.erase v).map (fun w => (c.withQueue v q).queues[w].length) =
      (allValves.erase v).map (fun w => c.queues[w].length) := List.map_congr_left fun w hw => by
    have ne : v ≠ w := fun e => ((nodup_allValves.mem_erase_iff).mp hw).1 e.symm
    rw [Schedule.queues_withQueue, if_neg ne]
  have after := sum_map_erase (fun w => (c.withQueue v q).queues[w].length) (mem_allValves v)
  have before := sum_map_erase (fun w => c.queues[w].length) (mem_allValves v)
  have own : (c.withQueue v q).queues[v] = q := by rw [Schedule.queues_withQueue, if_pos rfl]
  rw [others, own] at after
  unfold Schedule.slotsInUse
  omega

/-- The first target joins, then the others. -/
theorem Schedule.join_cons {c : Schedule} {gap : Fin 16 → Nat} {r : Request} {rs : List Request} {q : List Action}
    (h : joinOne (gap r.valve) r.contribution c.queues[r.valve] = some q) :
    c.join gap (r :: rs) = (c.withQueue r.valve q).join gap rs := by
  rw [Schedule.join, h]
  rfl

/-- A target that does not join makes the whole a conflict (R98). -/
theorem Schedule.takeAll_conflict {c : Schedule} {gap : Fin 16 → Nat} {r : Request} (rs : List Request)
    (h : Conflicts (gap r.valve) r.contribution c.queues[r.valve]) : c.takeAll gap (r :: rs) = .conflict := by
  rw [Schedule.takeAll, Schedule.join, joinOne_of_conflicts h]

/-- What joins (R98). -/
theorem Schedule.join_cons_inv {c c' : Schedule} {gap : Fin 16 → Nat} {r : Request} {rs : List Request}
    (h : c.join gap (r :: rs) = some c') : ∃ q, joinOne (gap r.valve) r.contribution c.queues[r.valve] = some q ∧
      (c.withQueue r.valve q).join gap rs = some c' := by
  cases one : joinOne (gap r.valve) r.contribution c.queues[r.valve] with
  | none =>
    rw [Schedule.join, one] at h
    cases h
  | some q => exact ⟨q, rfl, (Schedule.join_cons one).symm.trans h⟩

/-- A joining changes queues alone (R95). -/
theorem Schedule.join_queues_only {gap : Fin 16 → Nat} : ∀ {rs : List Request} {c c' : Schedule},
    c.join gap rs = some c' → c'.advances = c.advances ∧ c'.position = c.position ∧ c'.motion = c.motion ∧
      c'.speed = c.speed
  | [], _, _, h => by
    cases h
    exact ⟨rfl, rfl, rfl, rfl⟩
  | r :: rs, c, c', h => by
    obtain ⟨q, _, rest⟩ := Schedule.join_cons_inv h
    exact (Schedule.join_queues_only rest :)

/-- A joining keeps every contribution there is (R95). -/
theorem Schedule.mem_contribs_join {gap : Fin 16 → Nat} {v : Fin 16} {x : Contribution} :
    ∀ {rs : List Request} {c c' : Schedule}, c.join gap rs = some c' →
      (∃ a ∈ c.queues[v], x ∈ a.contribs) → ∃ b ∈ c'.queues[v], x ∈ b.contribs
  | [], _, _, h, hx => by
    cases h
    exact hx
  | r :: rs, c, c', h, hx => by
    obtain ⟨q, one, rest⟩ := Schedule.join_cons_inv h
    refine Schedule.mem_contribs_join rest ?_
    rw [Schedule.queues_withQueue]
    split
    · rename_i e
      subst e
      exact mem_contribs_joinOne one (.inr hx)
    · exact hx

/-- A joining holds every target (R98). -/
theorem Schedule.mem_targets_join {gap : Fin 16 → Nat} {x : Request} : ∀ {rs : List Request} {c c' : Schedule},
    c.join gap rs = some c' → x ∈ rs → ∃ b ∈ c'.queues[x.valve], x.contribution ∈ b.contribs
  | r :: rs, c, c', h, hx => by
    obtain ⟨q, one, rest⟩ := Schedule.join_cons_inv h
    rcases List.mem_cons.mp hx with rfl | hx
    · refine Schedule.mem_contribs_join rest ?_
      rw [Schedule.queues_withQueue, if_pos rfl]
      exact mem_contribs_joinOne one (.inl rfl)
    · exact Schedule.mem_targets_join rest hx

/-- A target that joins leaves the rest to the others, with one action for those it gathers (R95, R98). -/
theorem Schedule.takeAll_joins {c : Schedule} {gap : Fin 16 → Nat} {r : Request} (rs : List Request)
    (h : ¬ Conflicts (gap r.valve) r.contribution c.queues[r.valve]) : ∃ c' : Schedule,
      c' = c.withQueue r.valve c'.queues[r.valve] ∧
      Joins (gap r.valve) r.contribution c.queues[r.valve] c'.queues[r.valve] ∧
      c.takeAll gap (r :: rs) = c'.takeAll gap rs ∧
      c'.slotsInUse + (c.queues[r.valve].filter (touches (gap r.valve) r.contribution)).length = c.slotsInUse + 1 := by
  have one := joinOne_of_not_conflicts h
  have joins := joins_insertAction (gap r.valve) r.contribution c.queues[r.valve]
  have length := length_joined (gap r.valve) r.contribution c.queues[r.valve]
  generalize insertAction _ _ = q at one joins length
  have own : (c.withQueue r.valve q).queues[r.valve] = q := by rw [Schedule.queues_withQueue, if_pos rfl]
  have slots := c.slotsInUse_withQueue r.valve q
  refine ⟨c.withQueue r.valve q, ?_, ?_, ?_, ?_⟩
  · rw [own]
  · rw [own]
    exact joins
  · rw [Schedule.takeAll, Schedule.join_cons one, Schedule.takeAll]
  · omega

/-- With no target left the room decides (R98). -/
theorem Schedule.takeAll_nil (c : Schedule) (gap : Fin 16 → Nat) :
    c.takeAll gap [] = if c.slotsInUse ≤ 128 then .admitted c else .noRoom := rfl

/-- The targets of an admission, in order (R98). -/
theorem getElem?_requestsOf {tag i : Nat} {p : Placed} {ps : List Placed} (h : ps[i]? = some p) :
    (requestsOf tag ps)[i]? = some (Request.mk p.valve ⟨tag, i, p.openAt, p.closeAt, .pending⟩) := by
  simp [requestsOf, List.getElem?_zipIdx, h]

/-- Settles O46: one target through the joining of its group, several by induction on the targets. -/
theorem admissionIsAllOrNothing : Obligations.AdmissionIsAllOrNothing := by
  refine ⟨fun c gap q rs => ⟨Schedule.takeAll_conflict rs, Schedule.takeAll_joins rs⟩,
    fun c gap => ⟨fun fits => (c.takeAll_nil gap).trans (if_pos fits), fun full => ?_⟩,
    fun s tag ps => ⟨requestsOf tag ps, rfl, ?_, fun i p h => getElem?_requestsOf h⟩,
    fun c placed gap rs h => ?_, fun c gap q a ha opened early => ?_, fun gap k a => ?_, fun u s => ⟨?_, fun v => ?_⟩⟩
  · exact (c.takeAll_nil gap).trans (if_neg (by omega))
  · simp [requestsOf]
  · obtain ⟨joined, fits⟩ := Schedule.takeAll_admitted h
    exact ⟨fits, fun q hq => Schedule.mem_targets_join joined hq,
      fun v a ha k hk => Schedule.mem_contribs_join joined ⟨a, ha, hk⟩,
      fun v others => Schedule.queue_join joined others,
      Schedule.join_queues_only joined⟩
  · exact Schedule.takeAll_conflict [] (.inl ⟨a, ha, opened, early⟩)
  · simp [touches, atOrBefore, addOffset, Config.halfRange]
  · rw [State.scheduleUpdate, State.workOutAdvances_eq]
  · exact State.advance_workOutAdvances _ _ _

end Sys2Proof.Machine
end

section
/-! PROOFS. The commands answer, and time advances (section 0.7, log 3). -/

namespace Sys2Proof.Machine

/-! ### The time base and the commands waiting -/

/-- The waiting commands and the time base are as they were. -/
def OutsideKept (s t : State) : Prop := t.pending = s.pending ∧ t.now = s.now

/-- Two such in a row. -/
theorem OutsideKept.trans {s t u : State} (h : OutsideKept s t) (k : OutsideKept t u) : OutsideKept s u :=
  ⟨k.1.trans h.1, k.2.trans h.2⟩

/-- A complete frame leaves them (R167, R168). -/
theorem outsideKept_acceptFrame (s : State) (f : Frame) : OutsideKept s (s.acceptFrame f) := by
  simp [OutsideKept]

/-- So does a received character (R164 to R166). -/
theorem outsideKept_receive (s : State) (b : Byte) (bit : Level) (stop : StopBit) :
    OutsideKept s (s.receive b bit stop) := by
  have failed : ∀ t : State, OutsideKept t t.frameFailed := fun t => by simp [OutsideKept, State.frameFailed]
  have collected : ∀ (t : State) got, OutsideKept t (t.collect got) := fun t got => by
    unfold State.collect
    split
    · exact ⟨rfl, rfl⟩
    · exact outsideKept_acceptFrame (t.putRx .hunt) _
    · exact failed t
  unfold State.receive
  dsimp only
  split
  · split
    · exact ⟨rfl, rfl⟩
    · exact ⟨rfl, rfl⟩
  · split
    · exact failed { s with pins := { s.pins with rxd := lineBehind stop } }
    · exact collected { s with pins := { s.pins with rxd := lineBehind stop } } _
  · exact ⟨rfl, rfl⟩

/-- So do the timers of the link (R165, R166). -/
theorem outsideKept_linkTimers (s : State) : OutsideKept s s.gapTimerExpired ∧ OutsideKept s s.idleTimerExpired := by
  constructor
  · unfold State.gapTimerExpired
    split <;> exact ⟨rfl, rfl⟩
  · unfold State.idleTimerExpired
    split <;> exact ⟨rfl, rfl⟩

/-- So does the start of a transmission (R168, R174). -/
theorem outsideKept_transmitBegins (s : State) : OutsideKept s s.transmitBegins := by
  unfold State.transmitBegins
  split
  · exact ⟨rfl, rfl⟩
  split
  · simp [OutsideKept]
  · exact ⟨rfl, rfl⟩

/-- So does its end: a reset leaves them too (R163, R175, R177). -/
theorem outsideKept_transmitEnds (s : State) : OutsideKept s s.transmitEnds := by
  unfold State.transmitEnds
  split
  · exact ⟨rfl, rfl⟩
  split <;> exact ⟨rfl, rfl⟩

/-- So do the entries of the rail, with their pin (R151). -/
theorem outsideKept_rail (s : State) (p : Pins) :
    OutsideKept s ({ s with pins := p } : State).railFalls ∧ OutsideKept s ({ s with pins := p } : State).railRises := by
  simp [OutsideKept]

/-- Every command answers a next state. -/
theorem exec_answers (c : Instr) (s : State) : ∃ t, exec c s = .next t ∧ t.pending = s.pending ∧ t.now = s.now := by
  cases c with
  | powerOnReset => exact ⟨_, rfl, rfl, rfl⟩
  | pinReset low =>
    refine ⟨_, rfl, ?_⟩
    split <;> exact ⟨rfl, rfl⟩
  | railLowEntry =>
    refine ⟨_, rfl, ?_⟩
    split
    · exact (outsideKept_rail s _).1
    · exact ⟨rfl, rfl⟩
  | railNormalEntry =>
    refine ⟨_, rfl, ?_⟩
    split
    · exact (outsideKept_rail s _).2
    · exact ⟨rfl, rfl⟩
  | frameComplete | frameError | characterReceived => exact ⟨_, rfl, outsideKept_receive s _ _ _⟩
  | gapTimerExpiry => exact ⟨_, rfl, (outsideKept_linkTimers s).1⟩
  | idleTimerExpiry => exact ⟨_, rfl, (outsideKept_linkTimers s).2⟩
  | transmitStart => exact ⟨_, rfl, outsideKept_transmitBegins s⟩
  | transmitEnd => exact ⟨_, rfl, outsideKept_transmitEnds s⟩
  | quadratureCount | pulseDirCount | encPhase | fallingEncA | timedStep | estimatedStep => exact ⟨_, rfl, by simp⟩
  | runChange | stopTimerExpiry | lossTimerExpiry | limitTimerExpiry | confirmingGap | silenceTimerExpiry =>
    exact ⟨_, rfl, by simp⟩
  | eyeRawChange | debounceExpiry => exact ⟨_, rfl, by simp⟩
  | pullInTimerExpiry | overtime | testEnd | pwmPeriodStart | pwmOnTimeEnd => exact ⟨_, rfl, by simp⟩
  | _ => exact ⟨_, rfl, outsideKept_acceptFrame s _⟩

/-! ### Time advances by 1 µs (section 0.7) -/

/-- The valves' timers advance, and nothing else (R119, R125). -/
theorem State.foldl_tickValve (vs : List (Fin 16)) (s : State) :
    ∃ w, vs.foldl State.tickValve s = { s with drive := { s.drive with valves := w } } :=
  foldl_keeps (P := fun t => ∃ w, t = { s with drive := { s.drive with valves := w } })
    (fun t v ⟨w, h⟩ => ⟨w.set v (t.valve v).tick, by
      subst h
      rfl⟩) vs s ⟨s.drive.valves, rfl⟩

/-- Each valve's timers advance once. -/
theorem State.valve_tickAll (s : State) (v : Fin 16) : (allValves.foldl State.tickValve s).valve v = (s.valve v).tick :=
  foldl_allValves (get := State.valve) (g := fun _ x => x.tick)
    (fun s v => s.valve_putValve_self v _) (fun s v w h => (s.valve_putValve v w _).trans (if_neg h)) s v

/-- A valve's timers as the statement gives them (R119, R125). -/
theorem Valve.tick_eq (x : Valve) : x.tick = { x with
    active := x.active + (if x.isActive = true ∧ x.atLimit = false then 1 else 0),
    pull := x.pull + (if x.pulling = true then 1 else 0) } := by
  have active : (if x.isActive && !x.atLimit then x.active + 1 else x.active) =
      x.active + (if x.isActive = true ∧ x.atLimit = false then 1 else 0) := by
    simp only [Bool.and_eq_true, Bool.not_eq_true']
    split <;> rfl
  have pull : (if x.pulling then x.pull + 1 else x.pull) = x.pull + (if x.pulling = true then 1 else 0) := by
    split <;> rfl
  rw [Valve.tick, active, pull]

/-- The rail's deglitch timer as the statement gives it (R151). -/
theorem Rail.timer_tick (r : Rail) (vsns : Vsns) : (r.tick vsns).timer =
    if (r.state = .normal ∧ vsns = .below) ∨ (r.state = .low ∧ vsns = .above) then r.timer + 1 else 0 := by
  obtain ⟨state, timer⟩ := r
  cases state <;> cases vsns <;> rfl

/-- The active time comes to its limit with this µs, as the statement gives it (R126, R137). -/
theorem Valve.atLimit_iff (x : Valve) : x.atLimit = true ↔
    (x.carrying = true ∧ x.cfg.maxOpen * 1000 ≤ x.active + 1) ∨
      ∃ ph d, x.state = .test ph d ∧ d * 1000 ≤ x.active + 1 := by
  unfold Valve.atLimit Valve.isActive Valve.carrying Valve.activeLimit
  cases x.state with
  | test ph d =>
    simp only [Bool.true_and, decide_eq_true_eq, Bool.false_eq_true, false_and, false_or]
    constructor
    · exact fun reached => ⟨ph, d, rfl, reached⟩
    · rintro ⟨_, _, ⟨⟩, reached⟩
      exact reached
  | _ => simp

/-- The generator's fraction grows by the rate of the source in force (R9). -/
theorem Belt.gen_tick (b : Belt) (pin : Level) : (b.gen = none → (b.tick pin).gen = none) ∧
    (∀ f, b.gen = some f → b.source = .timed → (b.tick pin).gen = some (f + b.par.timedSpeed)) ∧
    ∀ f, b.gen = some f → b.source = .estimate → (b.tick pin).gen = some (f + b.frozen) := by
  refine ⟨fun h => ?_, fun f h k => ?_, fun f h k => ?_⟩
  · simp [Belt.tick, h]
  · simp [Belt.tick, Belt.genRate, h, k]
  · simp [Belt.tick, Belt.genRate, h, k]

/-- The source counts its gap in CONFIRMING alone (R24). -/
theorem Source.tick_eq (x : Source) : (∀ c, x = .confirming c → x.tick = .confirming { c with gap := c.gap + 1 }) ∧
    ((∀ c, x ≠ .confirming c) → x.tick = x) := by
  cases x with
  | confirming c =>
    refine ⟨?_, fun h => absurd rfl (h c)⟩
    rintro d ⟨⟩
    rfl
  | _ => exact ⟨nofun, fun _ => rfl⟩

/-- The receiver's timers run on an idle line alone (R165, R166). -/
theorem Receiver.tick_eq (r : Receiver) (line : RxLine) : (r = .hunt → r.tick line = .hunt) ∧
    (∀ got g, r = .receive got g → line = .idle → r.tick line = .receive got (g + 1)) ∧
    (∀ got g, r = .receive got g → line ≠ .idle → r.tick line = .receive got g) ∧
    (∀ i, r = .quiet i → line = .idle → r.tick line = .quiet (i + 1)) ∧
    ∀ i, r = .quiet i → line ≠ .idle → r.tick line = .quiet 0 := by
  refine ⟨?_, ?_, ?_, ?_, ?_⟩
  · rintro rfl
    cases line <;> rfl
  · rintro got g rfl rfl
    rfl
  · rintro got g rfl busy
    cases line with
    | idle => exact absurd rfl busy
    | _ => rfl
  · rintro i rfl rfl
    rfl
  · rintro i rfl busy
    cases line with
    | idle => exact absurd rfl busy
    | _ => rfl

/-- A held line comes nearer to its end. -/
theorem RxLine.tick_eq (line : RxLine) : (line = .idle → line.tick = .idle) ∧ (line = .busy → line.tick = .busy) ∧
    (∀ n, 2 ≤ n → line = .low n → line.tick = .low (n - 1)) ∧ (line = .low 1 → line.tick = .idle) := by
  refine ⟨?_, ?_, fun n two => ?_, ?_⟩
  · rintro rfl
    rfl
  · rintro rfl
    rfl
  · rintro rfl
    exact if_neg (by omega)
  · rintro rfl
    rfl

/-- The part with every timer but the valves' advanced. -/
def State.blocksTicked (s : State) : State :=
  { s with now := s.now + 1, belt := s.belt.tick s.pins.run, rail := s.rail.tick s.pins.vsns,
           drive := { s.drive with base := (s.drive.base + 1) % s.drive.period },
           link := { s.link with rx := s.link.rx.tick s.pins.rxd, tx := s.link.tx.tick },
           pins := { s.pins with rxd := s.pins.rxd.tick } }

/-- The valves' timers come last. -/
theorem State.advanceTime_eq (s : State) : s.advanceTime = allValves.foldl State.tickValve s.blocksTicked := rfl

/-- Time advances by 1 µs as the statement says (section 0.7). -/
theorem oneMicrosecond (s : State) : OneMicrosecond s s.advanceTime := by
  have valves := s.blocksTicked.valve_tickAll
  obtain ⟨w, advanced⟩ := State.foldl_tickValve allValves s.blocksTicked
  rw [State.advanceTime_eq]
  rw [advanced] at valves ⊢
  exact {
    belt := rfl
    generator := s.belt.gen_tick s.pins.run
    source := s.belt.source.tick_eq
    valves := fun v => (valves v).trans (s.valve v).tick_eq
    base := rfl
    rail := ⟨rfl, s.rail.timer_tick s.pins.vsns⟩
    receiver := ⟨rfl, s.link.rx.tick_eq s.pins.rxd⟩
    transmitter := ⟨fun free => congrArg Transmitter.tick free, fun _ _ _ sending => congrArg Transmitter.tick sending⟩
    line := ⟨rfl, s.pins.rxd.tick_eq⟩
    rest := ⟨rfl, rfl, rfl, rfl, rfl, rfl, rfl⟩ }

end Sys2Proof.Machine
end

section
/-! PROOFS. What is due, and what it does when its turn comes (section 0.7, log 3). -/

namespace Sys2Proof.Machine

/-! ### When it is due -/

/-- An on-time is over as the statement says (R122). -/
theorem State.onTimeDue_iff (s : State) (v : Fin 16) : (Due.onTimeEnd v).due s = true ↔
    (s.valve v).holding = true ∧ (s.valve v).out = true ∧ s.drive.period * (s.valve v).duty / 64 ≤
      (s.drive.base + s.drive.period - v.val * s.drive.period / 16) % s.drive.period := by
  have place : s.holdOut v = false ↔ s.drive.period * (s.valve v).duty / 64 ≤
      (s.drive.base + s.drive.period - v.val * s.drive.period / 16) % s.drive.period := by
    rw [State.holdOut, decide_eq_false_iff_not, Nat.not_lt]
    rfl
  rw [← place]
  simp [Due.due, and_assoc]

/-- A candidate is due at its level and its time (R36). -/
theorem State.debounceDue_iff (s : State) (l : Fin 8) : s.debounceDue l = true ↔
    ∃ c, (s.lane l).candidate = some c ∧ s.eyePin l = c.level ∧ c.start + c.debounce ≤ s.now := by
  unfold State.debounceDue
  cases (s.lane l).candidate <;> simp

/-- The link's timers are due above 3 ms, and at 3 ms (R165, R166). -/
theorem Receiver.over_iff (r : Receiver) : (r.gapOver = true ↔ ∃ got g, r = .receive got g ∧ 3000 < g) ∧
    (r.idleOver = true ↔ ∃ i, r = .quiet i ∧ 3000 ≤ i) := by
  cases r with
  | hunt => exact ⟨⟨nofun, nofun⟩, ⟨nofun, nofun⟩⟩
  | receive got g =>
    refine ⟨⟨fun late => ⟨got, g, rfl, of_decide_eq_true late⟩, ?_⟩, ⟨nofun, nofun⟩⟩
    rintro ⟨_, _, ⟨⟩, late⟩
    exact decide_eq_true late
  | quiet i =>
    refine ⟨⟨nofun, nofun⟩, ⟨fun late => ⟨i, rfl, of_decide_eq_true late⟩, ?_⟩⟩
    rintro ⟨_, ⟨⟩, late⟩
    exact decide_eq_true late

/-- The arbiter has something to choose (R174). -/
theorem Link.canStart_iff (l : Link) : l.canStart = true ↔ l.tx = .free ∧ (l.slot ≠ none ∨ l.notices ≠ []) := by
  unfold Link.canStart
  cases l.tx <;> simp [Option.isSome_iff_ne_none]

/-- The characters of a frame have been sent (R162, R174). -/
theorem Link.frameSent_iff (l : Link) : l.frameSent = true ↔ ∃ bytes a e, l.tx = .sending bytes a e ∧
    bytes.length * (if l.settings.parity = .none then 10 else 11) * 1000000 ≤ e * l.settings.baud.rate := by
  have bits : l.settings.parity.charBits = if l.settings.parity = .none then 10 else 11 := by
    cases l.settings.parity <;> rfl
  unfold Link.frameSent
  rw [bits]
  cases l.tx with
  | free => exact ⟨nofun, nofun⟩
  | sending bytes a e =>
    refine ⟨fun sent => ⟨bytes, a, e, rfl, of_decide_eq_true sent⟩, ?_⟩
    rintro ⟨_, _, _, ⟨⟩, sent⟩
    exact decide_eq_true sent

/-- The generator is due at its modulus (R9). -/
theorem State.generatorDue_iff (s : State) : Due.generatorStep.due s = true ↔ ∃ f, s.belt.gen = some f ∧ 1000000 ≤ f := by
  unfold Due.due
  cases s.belt.gen <;> simp [Config.genModulus]

/-- Everything is due by its rule. -/
theorem dueByItsRule (s : State) : DueByItsRule s where
  generator := s.generatorDue_iff
  encoder := by simp [Due.due]
  filter := by simp [Due.due, Config.runFilter]
  stop := LineEffect.due_iff s .stop
  loss := LineEffect.due_iff s .loss
  limit := LineEffect.due_iff s .limit
  gap := LineEffect.due_iff s .gap
  silence := LineEffect.due_iff s .silence
  eye l := by simp [Due.due]
  debounce l := s.debounceDue_iff l
  pullIn v := by simp [Due.due]
  active v n := by simp [Due.due]
  period v := by simp [Due.due, periodOffset]
  onTime v := s.onTimeDue_iff v
  railLow := by simp [Due.due, Config.deglitch]
  railNormal := by simp [Due.due, Config.deglitch]
  linkGap := (Receiver.over_iff s.link.rx).1
  linkIdle := (Receiver.over_iff s.link.rx).2
  start := s.link.canStart_iff
  sent := s.link.frameSent_iff

/-! ### What it does -/

/-- The last µs of an opening or a test, below and at its limit (R126, R137). -/
theorem State.lastMicro_eq (s : State) (v : Fin 16) :
    s.lastMicro v = if (s.valve v).activeLimit ≤ (s.valve v).active + 1 then
      if (s.valve v).carrying then (s.putValve v { s.valve v with active := (s.valve v).active + 1 }).overtimeOf v
      else (s.putValve v { s.valve v with active := (s.valve v).active + 1 }).testEndOf v
    else s.putValve v { s.valve v with active := (s.valve v).active + 1 } := by
  unfold State.lastMicro
  dsimp only
  rw [State.valve_putValve_self]
  rfl

/-- The limit of an opening is the max open time (R126). -/
theorem Valve.activeLimit_carrying {x : Valve} (h : x.carrying = true) : x.activeLimit = x.cfg.maxOpen * 1000 := by
  unfold Valve.carrying at h
  unfold Valve.activeLimit
  cases e : x.state with
  | test ph d =>
    rw [e] at h
    cases h
  | _ => rfl

/-- An overtime sets the active time, whatever it was (R126). -/
theorem State.overtimeOf_active (s : State) (v : Fin 16) (n : Nat) :
    (s.putValve v { s.valve v with active := n }).overtimeOf v =
      if (s.valve v).carrying then s.overtimeOf v else s.putValve v { s.valve v with active := n } := by
  have carrying : ({ s.valve v with active := n } : Valve).carrying = (s.valve v).carrying := rfl
  unfold State.overtimeOf
  rw [State.valve_putValve_self, State.putValve_putValve, carrying]
  split <;> rfl

/-- A test's end sets the active time, whatever it was (R137). -/
theorem State.testEndOf_active {s : State} {v : Fin 16} {ph : TestPhase} {d : Nat} (n : Nat)
    (h : (s.valve v).state = .test ph d) :
    (s.putValve v { s.valve v with active := n }).testEndOf v = s.testEndOf v := by
  unfold State.testEndOf
  rw [State.valve_putValve_self]
  dsimp only
  rw [h]
  dsimp only
  rw [State.putValve_putValve]
  rfl

/-- The generated count is that of the source in force (R21, R27). -/
theorem State.stepGenerator_eq (s : State) :
    s.stepGenerator = if s.belt.source = .timed then s.stepTimed else s.stepEstimated := by
  unfold State.stepGenerator
  cases s.belt.source <;> rfl

/-- A pin driven to the level it is driven to already is as it was. -/
theorem State.driveEye_self {s : State} {l : Fin 8} {level : Level} (h : s.pins.eyes[l].drive = some level) :
    ({ s with pins := { s.pins with eyes := s.pins.eyes.set l { s.pins.eyes[l] with drive := some level } } } : State) =
      s := by
  rw [← h]
  have same : s.pins.eyes.set l s.pins.eyes[l] = s.pins.eyes := by simp
  have pin : ({ s.pins.eyes[l] with drive := s.pins.eyes[l].drive } : EyePin) = s.pins.eyes[l] := rfl
  rw [pin, same]

/-- Whatever happens is what the command of its row does. -/
theorem firesAsItsCommand (s : State) : FiresAsItsCommand s where
  timed h := congrArg Host.Outcome.next (s.stepGenerator_eq.trans (if_pos h)).symm
  estimated h := congrArg Host.Outcome.next (s.stepGenerator_eq.trans (if_neg h)).symm
  encoder := rfl
  filter := rfl
  stop := rfl
  loss := rfl
  limit := rfl
  gap := rfl
  silence := rfl
  eye l h := congrArg (fun t : State => Host.Outcome.next (t.sampleEye l (s.eyePin l))) (State.driveEye_self h)
  sampled l := sampledEye s s l _ rfl rfl
  debounce _ := rfl
  pullIn _ := rfl
  overtime v n carrying reached := by
    have limit : (s.valve v).activeLimit ≤ (s.valve v).active + 1 := by
      rwa [Valve.activeLimit_carrying carrying]
    have ends : s.lastMicro v = s.overtimeOf v := by
      rw [State.lastMicro_eq, if_pos limit, if_pos carrying, State.overtimeOf_active, if_pos carrying]
    exact congrArg Host.Outcome.next ends.symm
  testEnd v n ph d test reached := by
    have limit : (s.valve v).activeLimit ≤ (s.valve v).active + 1 := by
      rwa [Valve.activeLimit, test]
    have other : ¬ (s.valve v).carrying = true := by simp [Valve.carrying, test]
    have ends : s.lastMicro v = s.testEndOf v := by
      rw [State.lastMicro_eq, if_pos limit, if_neg other, State.testEndOf_active _ test]
    exact congrArg Host.Outcome.next ends.symm
  takenOver v n carrying early := by
    have limit : ¬ (s.valve v).activeLimit ≤ (s.valve v).active + 1 := by
      rw [Valve.activeLimit_carrying carrying]
      omega
    exact (s.lastMicro_eq v).trans (if_neg limit)
  period _ := rfl
  onTime _ := rfl
  railLow normal below := by
    have pins : ({ s with pins := { s.pins with vsns := .below } } : State) = s := by rw [← below]
    have falls : exec .railLowEntry s = .next ({ s with pins := { s.pins with vsns := .below } } : State).railFalls := by
      change execRailLowEntry s = _
      rw [execRailLowEntry, normal]
    exact falls.trans (congrArg (fun t : State => Host.Outcome.next t.railFalls) pins)
  railNormal low above := by
    have pins : ({ s with pins := { s.pins with vsns := .above } } : State) = s := by rw [← above]
    have rises : exec .railNormalEntry s = .next ({ s with pins := { s.pins with vsns := .above } } : State).railRises := by
      change execRailNormalEntry s = _
      rw [execRailNormalEntry, low]
    exact rises.trans (congrArg (fun t : State => Host.Outcome.next t.railRises) pins)
  linkGap := rfl
  linkIdle := rfl
  start := rfl
  sent := rfl

/-! ### What takes its turn -/

/-- Everything that can happen of itself: no change of the RUN setting, and the active ends of the valves at their limit
alone. -/
theorem Due.mem_all (s : State) (d : Due) : d ∈ Due.all s ↔ d ≠ .line .run ∧
    ∀ v n, d = .activeEnd v n → (s.valve v).atLimit = true ∧ (s.valve v).active = n := by
  cases d with
  | line e => cases e <;> simp [Due.all]
  | activeEnd v n =>
    have ends : Due.activeEnd v n ∈ Due.all s ↔ ∃ w, (s.valve w).atLimit = true ∧ w = v ∧ (s.valve w).active = n := by
      simp [Due.all]
    rw [ends]
    constructor
    · rintro ⟨_, limit, rfl, active⟩
      refine ⟨nofun, ?_⟩
      rintro _ _ ⟨⟩
      exact ⟨limit, active⟩
    · rintro ⟨_, limits⟩
      obtain ⟨limit, active⟩ := limits v n rfl
      exact ⟨v, limit, rfl, active⟩
  | _ => simp [Due.all]

/-- Each of them once. -/
theorem Due.nodup_all (s : State) : (Due.all s).Nodup := by
  have eyes := nodup_map_of_inj (f := Due.eyeSample) nodup_allLanes fun _ _ _ _ => Due.eyeSample.inj
  have debounces := nodup_map_of_inj (f := Due.debounce) nodup_allLanes fun _ _ _ _ => Due.debounce.inj
  have pulls := nodup_map_of_inj (f := Due.pullIn) nodup_allValves fun _ _ _ _ => Due.pullIn.inj
  have periods := nodup_map_of_inj (f := Due.periodStart) nodup_allValves fun _ _ _ _ => Due.periodStart.inj
  have onTimes := nodup_map_of_inj (f := Due.onTimeEnd) nodup_allValves fun _ _ _ _ => Due.onTimeEnd.inj
  have ends : ((allValves.filter (fun v => (s.valve v).atLimit)).map
      (fun v => Due.activeEnd v (s.valve v).active)).Nodup :=
    nodup_map_of_inj (List.Pairwise.filter _ nodup_allValves) fun _ _ _ _ h => (Due.activeEnd.inj h).1
  simp [Due.all, nodup_append_iff, eyes, debounces, pulls, periods, onTimes, ends]

/-- A free transmitter takes what waits, and one with nothing waiting stays (R174). -/
theorem State.arbiter_eq (s : State) : s.arbiter = s.transmitBegins := by
  unfold State.arbiter
  split
  · rfl
  rename_i idle
  rw [Link.canStart_iff] at idle
  unfold State.transmitBegins
  split
  · rfl
  rename_i free
  simp only [free, true_and, not_or, Classical.not_not] at idle
  obtain ⟨slot, notices⟩ := idle
  rw [slot]
  dsimp only
  rw [Link.beginNotice, notices]

/-- A step with no command waiting is a microsecond. -/
theorem step_idle {s : State} (h : s.pending = []) : step s = .next s.tick := by
  unfold step
  rw [h]

/-- What happens leaves the time base and the waiting commands. -/
theorem outsideKept_fire (s : State) (d : Due) : OutsideKept s (d.fire s) := by
  cases d with
  | generatorStep =>
    change OutsideKept s s.stepGenerator
    rw [State.stepGenerator_eq]
    split <;> simp [OutsideKept]
  | activeEnd v n =>
    change OutsideKept s (s.lastMicro v)
    rw [State.lastMicro_eq]
    split
    · split <;> simp [OutsideKept]
    · exact ⟨rfl, rfl⟩
  | railLow => exact (outsideKept_rail s s.pins).1
  | railNormal => exact (outsideKept_rail s s.pins).2
  | linkGap => exact (outsideKept_linkTimers s).1
  | linkIdle => exact (outsideKept_linkTimers s).2
  | transmitStart => exact outsideKept_transmitBegins s
  | transmitEnd => exact outsideKept_transmitEnds s
  | _ => simp [OutsideKept, Due.fire]

/-- A microsecond: time advances, the things due happen in an order that is open, and a free transmitter takes what
waits (section 0.7, log 3). -/
theorem State.tick_eq (s : State) : ∃ (ds : List Due) (o : List Nat),
    ds.Perm ((Due.all s).filter (Due.listed s.advanceTime)) ∧
    s.tick = (ds.foldl Due.fireIfDue { s.advanceTime with order := o }).transmitBegins := by
  obtain ⟨o, settled⟩ := s.advanceTime.settle_snd ((Due.all s).filter (Due.listed s.advanceTime))
  refine ⟨_, o, s.advanceTime.settle_perm _, ?_⟩
  rw [← settled, ← State.arbiter_eq]
  rfl

/-- So do all of them, in any order. -/
theorem outsideKept_foldl_fire (ds : List Due) (s : State) : OutsideKept s (ds.foldl Due.fireIfDue s) :=
  foldl_keeps (P := OutsideKept s) (fun t d h => by
    unfold Due.fireIfDue
    split
    · exact h.trans (outsideKept_fire t d)
    · exact h) ds s ⟨rfl, rfl⟩

/-- A microsecond leaves the waiting commands, and the time base counts it. -/
theorem State.tick_outside (s : State) : s.tick.pending = s.pending ∧ s.tick.now = s.now + 1 := by
  obtain ⟨ds, o, _, ticked⟩ := s.tick_eq
  obtain ⟨now, _, _, _, _, _, pending⟩ := (oneMicrosecond s).rest
  rw [ticked]
  generalize s.advanceTime = u at now pending
  obtain ⟨samePending, sameNow⟩ :=
    (outsideKept_foldl_fire ds { u with order := o }).trans (outsideKept_transmitBegins _)
  exact ⟨samePending.trans pending, sameNow.trans now⟩

/-- Settles O2: each command through what its operation leaves, the microsecond through the list of what is due. -/
theorem everyStepAnswersANextState : Obligations.EveryStepAnswersANextState := by
  refine ⟨exec_answers, fun s idle => ?_, fun s idle => ?_, Valve.atLimit_iff, dueByItsRule, firesAsItsCommand,
    fun s l => ⟨?_, ?_, ?_⟩⟩
  · obtain ⟨pending, now⟩ := s.tick_outside
    exact ⟨s.tick, step_idle idle, pending.trans idle, now⟩
  · obtain ⟨ds, o, perm, ticked⟩ := s.tick_eq
    refine ⟨s.advanceTime, ds, o, _, oneMicrosecond s, perm.nodup_iff.mpr (List.Pairwise.filter _ (Due.nodup_all s)), fun d => ?_, rfl, ?_⟩
    · rw [perm.mem_iff, List.mem_filter, Due.mem_all, and_comm]
      refine and_congr_left fun _ => ?_
      rw [Due.listed, Bool.or_eq_true, Bool.and_eq_true, beq_iff_eq]
      rfl
    · exact (step_idle idle).trans (congrArg Host.Outcome.next ticked)
  · intro level driven
    rw [State.eyePin, EyePin.level, driven]
  · intro undriven on
    rw [State.eyePin, EyePin.level, undriven, on]
    rfl
  · intro undriven off
    rw [State.eyePin, EyePin.level, undriven, off]
    rfl

end Sys2Proof.Machine
end
